-- ==== Sys2Proof/Word.lean ====
section
/-! DEFINITION. The two widths of the machine (00_scope.md R8, R11). -/

namespace Sys2Proof

/-- A byte, 8 bits. -/
abbrev Byte := BitVec 8

/-- A word, 16 bits: an address or a program counter. -/
abbrev Word := BitVec 16

end Sys2Proof
end

