-- ==== Sys2Proof/Machine/Bits.lean ====
section
/-! DEFINITION. Splitting and joining words, extending bytes, pages (00_scope.md R11, R12), and the bytes of a table
word. -/

namespace Sys2Proof

/-- `word(hi, lo)` is `hi * 256 + lo` (R11). -/
def word (hi lo : Byte) : Word := hi ++ lo

/-- `lo8(w) = w[7:0]` (R11). -/
def lo8 (w : Word) : Byte := w.extractLsb' 0 8

/-- `hi8(w) = w[15:8]` (R11). -/
def hi8 (w : Word) : Byte := w.extractLsb' 8 8

/-- `page(w) = w[15:8]`, the number of the 256-byte block that holds the address (R11, 30_encoding.md R91). -/
def page (w : Word) : Byte := hi8 w

/-- `zext_16(b)`, the byte with a zero high byte (R12). -/
def zext16 (b : Byte) : Word := b.setWidth 16

/-- `sext_16(b)`, the byte read as a number in -128..127 and written as a word (R12). -/
def sext16 (b : Byte) : Word := b.signExtend 16

/-- The three bytes of a table word: byte k is bits 8k+7..8k, and the bits from `nbits` up are 0. -/
def wordBytes (nbits w : Nat) : List Byte :=
  let w := w % 2 ^ nbits
  [BitVec.ofNat 8 w, BitVec.ofNat 8 (w / 256), BitVec.ofNat 8 (w / 65536)]

end Sys2Proof
end

