-- ==== Sys2Proof/Syntax.lean ====
section
/-! DEFINITION. The instruction set as syntax: the thirteen addressing modes (30_encoding.md R85), the 56 mnemonics
and ILLEGAL (R98, R99), and one constructor of `Instr` for each assigned row of spec/opcode_table.json, with one
constructor that carries its opcode byte for the 105 ILLEGAL rows. -/

namespace Sys2Proof

/-- The tags of the thirteen addressing modes, in the order of the table of R85. -/
inductive Mode where
  | imp | acc | imm | zp | zpx | zpy | abs | abx | aby | rel | ind | izx | izy
  deriving DecidableEq, Repr

/-- An addressing mode with its operand bytes: `b` is the one operand byte, `w` the two-byte operand
`word(b2, b1)` (R81 to R83, R85, R86). -/
inductive Operand where
  | imp
  | acc
  | imm (b : Byte)
  | zp (b : Byte)
  | zpx (b : Byte)
  | zpy (b : Byte)
  | abs (w : Word)
  | abx (w : Word)
  | aby (w : Word)
  | rel (b : Byte)
  | ind (w : Word)
  | izx (b : Byte)
  | izy (b : Byte)
  deriving DecidableEq, Repr

/-- The mode of an operand (R85). -/
def Operand.mode : Operand → Mode
  | .imp => .imp
  | .acc => .acc
  | .imm _ => .imm
  | .zp _ => .zp
  | .zpx _ => .zpx
  | .zpy _ => .zpy
  | .abs _ => .abs
  | .abx _ => .abx
  | .aby _ => .aby
  | .rel _ => .rel
  | .ind _ => .ind
  | .izx _ => .izx
  | .izy _ => .izy

/-- The 56 mnemonics of R98, and ILLEGAL (R99). -/
inductive Mnemonic where
  | lda | ldx | ldy | sta | stx | sty
  | tax | tay | txa | tya | tsx | txs
  | pha | php | pla | plp
  | and | ora | eor | bit
  | adc | sbc | cmp | cpx | cpy
  | inc | dec | inx | iny | dex | dey
  | asl | lsr | rol | ror
  | jmp | jsr | rts
  | bcc | bcs | beq | bne | bmi | bpl | bvc | bvs
  | clc | sec | cli | sei | cld | sed | clv | nop | brk | rti
  | illegal
  deriving DecidableEq, Repr

/-- One constructor per assigned row of spec/opcode_table.json: mnemonic, then mode where the mnemonic has several.
`illegal op` is the row of the illegal opcode byte `op` (R99, R229). -/
inductive Instr where
  -- load and store (40_load_store.md)
  | ldaImm (b : Byte)
  | ldaZp (b : Byte)
  | ldaZpx (b : Byte)
  | ldaAbs (w : Word)
  | ldaAbx (w : Word)
  | ldaAby (w : Word)
  | ldaIzx (b : Byte)
  | ldaIzy (b : Byte)
  | ldxImm (b : Byte)
  | ldxZp (b : Byte)
  | ldxZpy (b : Byte)
  | ldxAbs (w : Word)
  | ldxAby (w : Word)
  | ldyImm (b : Byte)
  | ldyZp (b : Byte)
  | ldyZpx (b : Byte)
  | ldyAbs (w : Word)
  | ldyAbx (w : Word)
  | staZp (b : Byte)
  | staZpx (b : Byte)
  | staAbs (w : Word)
  | staAbx (w : Word)
  | staAby (w : Word)
  | staIzx (b : Byte)
  | staIzy (b : Byte)
  | stxZp (b : Byte)
  | stxZpy (b : Byte)
  | stxAbs (w : Word)
  | styZp (b : Byte)
  | styZpx (b : Byte)
  | styAbs (w : Word)
  -- register transfer (41_transfer.md)
  | tax
  | tay
  | txa
  | tya
  | tsx
  | txs
  -- stack (42_stack.md)
  | pha
  | php
  | pla
  | plp
  -- logic (43_logic.md)
  | andImm (b : Byte)
  | andZp (b : Byte)
  | andZpx (b : Byte)
  | andAbs (w : Word)
  | andAbx (w : Word)
  | andAby (w : Word)
  | andIzx (b : Byte)
  | andIzy (b : Byte)
  | oraImm (b : Byte)
  | oraZp (b : Byte)
  | oraZpx (b : Byte)
  | oraAbs (w : Word)
  | oraAbx (w : Word)
  | oraAby (w : Word)
  | oraIzx (b : Byte)
  | oraIzy (b : Byte)
  | eorImm (b : Byte)
  | eorZp (b : Byte)
  | eorZpx (b : Byte)
  | eorAbs (w : Word)
  | eorAbx (w : Word)
  | eorAby (w : Word)
  | eorIzx (b : Byte)
  | eorIzy (b : Byte)
  | bitZp (b : Byte)
  | bitAbs (w : Word)
  -- arithmetic and compare (44_arithmetic.md)
  | adcImm (b : Byte)
  | adcZp (b : Byte)
  | adcZpx (b : Byte)
  | adcAbs (w : Word)
  | adcAbx (w : Word)
  | adcAby (w : Word)
  | adcIzx (b : Byte)
  | adcIzy (b : Byte)
  | sbcImm (b : Byte)
  | sbcZp (b : Byte)
  | sbcZpx (b : Byte)
  | sbcAbs (w : Word)
  | sbcAbx (w : Word)
  | sbcAby (w : Word)
  | sbcIzx (b : Byte)
  | sbcIzy (b : Byte)
  | cmpImm (b : Byte)
  | cmpZp (b : Byte)
  | cmpZpx (b : Byte)
  | cmpAbs (w : Word)
  | cmpAbx (w : Word)
  | cmpAby (w : Word)
  | cmpIzx (b : Byte)
  | cmpIzy (b : Byte)
  | cpxImm (b : Byte)
  | cpxZp (b : Byte)
  | cpxAbs (w : Word)
  | cpyImm (b : Byte)
  | cpyZp (b : Byte)
  | cpyAbs (w : Word)
  -- increment and decrement (45_incdec.md)
  | incZp (b : Byte)
  | incZpx (b : Byte)
  | incAbs (w : Word)
  | incAbx (w : Word)
  | decZp (b : Byte)
  | decZpx (b : Byte)
  | decAbs (w : Word)
  | decAbx (w : Word)
  | inx
  | iny
  | dex
  | dey
  -- shift and rotate (46_shift.md)
  | aslAcc
  | aslZp (b : Byte)
  | aslZpx (b : Byte)
  | aslAbs (w : Word)
  | aslAbx (w : Word)
  | lsrAcc
  | lsrZp (b : Byte)
  | lsrZpx (b : Byte)
  | lsrAbs (w : Word)
  | lsrAbx (w : Word)
  | rolAcc
  | rolZp (b : Byte)
  | rolZpx (b : Byte)
  | rolAbs (w : Word)
  | rolAbx (w : Word)
  | rorAcc
  | rorZp (b : Byte)
  | rorZpx (b : Byte)
  | rorAbs (w : Word)
  | rorAbx (w : Word)
  -- jump and subroutine (47_jump.md)
  | jmpAbs (w : Word)
  | jmpInd (w : Word)
  | jsr (w : Word)
  | rts
  -- conditional branch (48_branch.md)
  | bcc (b : Byte)
  | bcs (b : Byte)
  | beq (b : Byte)
  | bne (b : Byte)
  | bmi (b : Byte)
  | bpl (b : Byte)
  | bvc (b : Byte)
  | bvs (b : Byte)
  -- flag and system (49_flag_system.md)
  | clc
  | sec
  | cli
  | sei
  | cld
  | sed
  | clv
  | nop
  | brk
  | rti
  -- the 105 illegal opcode bytes (49_flag_system.md R229)
  | illegal (op : Byte)
  deriving DecidableEq, Repr

end Sys2Proof
end

