-- ==== Sys2Proof/Decode.lean ====
section
/-! DEFINITION. From bytes to instructions and back: the opcode grid of 30_encoding.md R98 as the decoder reads it, the
decoder on any list of bytes, the encoder, and what a row says of its instruction (mnemonic, operand, length). -/

namespace Sys2Proof

/-- The three formats of R81 to R83: no operand byte, one, or two (little-endian). -/
inductive Form where
  | f1 (i : Instr)
  | f2 (k : Byte → Instr)
  | f3 (k : Word → Instr)

/-- Row 0x of the grid of R98, by the low nibble of the opcode byte; the other columns are illegal (R99). -/
def opcodeRow0 (op : Byte) : Nat → Form
  | 0x0 => .f1 .brk
  | 0x1 => .f2 .oraIzx
  | 0x5 => .f2 .oraZp
  | 0x6 => .f2 .aslZp
  | 0x8 => .f1 .php
  | 0x9 => .f2 .oraImm
  | 0xA => .f1 .aslAcc
  | 0xD => .f3 .oraAbs
  | 0xE => .f3 .aslAbs
  | _ => .f1 (.illegal op)

/-- Row 1x of the grid of R98, by the low nibble of the opcode byte; the other columns are illegal (R99). -/
def opcodeRow1 (op : Byte) : Nat → Form
  | 0x0 => .f2 .bpl
  | 0x1 => .f2 .oraIzy
  | 0x5 => .f2 .oraZpx
  | 0x6 => .f2 .aslZpx
  | 0x8 => .f1 .clc
  | 0x9 => .f3 .oraAby
  | 0xD => .f3 .oraAbx
  | 0xE => .f3 .aslAbx
  | _ => .f1 (.illegal op)

/-- Row 2x of the grid of R98, by the low nibble of the opcode byte; the other columns are illegal (R99). -/
def opcodeRow2 (op : Byte) : Nat → Form
  | 0x0 => .f3 .jsr
  | 0x1 => .f2 .andIzx
  | 0x4 => .f2 .bitZp
  | 0x5 => .f2 .andZp
  | 0x6 => .f2 .rolZp
  | 0x8 => .f1 .plp
  | 0x9 => .f2 .andImm
  | 0xA => .f1 .rolAcc
  | 0xC => .f3 .bitAbs
  | 0xD => .f3 .andAbs
  | 0xE => .f3 .rolAbs
  | _ => .f1 (.illegal op)

/-- Row 3x of the grid of R98, by the low nibble of the opcode byte; the other columns are illegal (R99). -/
def opcodeRow3 (op : Byte) : Nat → Form
  | 0x0 => .f2 .bmi
  | 0x1 => .f2 .andIzy
  | 0x5 => .f2 .andZpx
  | 0x6 => .f2 .rolZpx
  | 0x8 => .f1 .sec
  | 0x9 => .f3 .andAby
  | 0xD => .f3 .andAbx
  | 0xE => .f3 .rolAbx
  | _ => .f1 (.illegal op)

/-- Row 4x of the grid of R98, by the low nibble of the opcode byte; the other columns are illegal (R99). -/
def opcodeRow4 (op : Byte) : Nat → Form
  | 0x0 => .f1 .rti
  | 0x1 => .f2 .eorIzx
  | 0x5 => .f2 .eorZp
  | 0x6 => .f2 .lsrZp
  | 0x8 => .f1 .pha
  | 0x9 => .f2 .eorImm
  | 0xA => .f1 .lsrAcc
  | 0xC => .f3 .jmpAbs
  | 0xD => .f3 .eorAbs
  | 0xE => .f3 .lsrAbs
  | _ => .f1 (.illegal op)

/-- Row 5x of the grid of R98, by the low nibble of the opcode byte; the other columns are illegal (R99). -/
def opcodeRow5 (op : Byte) : Nat → Form
  | 0x0 => .f2 .bvc
  | 0x1 => .f2 .eorIzy
  | 0x5 => .f2 .eorZpx
  | 0x6 => .f2 .lsrZpx
  | 0x8 => .f1 .cli
  | 0x9 => .f3 .eorAby
  | 0xD => .f3 .eorAbx
  | 0xE => .f3 .lsrAbx
  | _ => .f1 (.illegal op)

/-- Row 6x of the grid of R98, by the low nibble of the opcode byte; the other columns are illegal (R99). -/
def opcodeRow6 (op : Byte) : Nat → Form
  | 0x0 => .f1 .rts
  | 0x1 => .f2 .adcIzx
  | 0x5 => .f2 .adcZp
  | 0x6 => .f2 .rorZp
  | 0x8 => .f1 .pla
  | 0x9 => .f2 .adcImm
  | 0xA => .f1 .rorAcc
  | 0xC => .f3 .jmpInd
  | 0xD => .f3 .adcAbs
  | 0xE => .f3 .rorAbs
  | _ => .f1 (.illegal op)

/-- Row 7x of the grid of R98, by the low nibble of the opcode byte; the other columns are illegal (R99). -/
def opcodeRow7 (op : Byte) : Nat → Form
  | 0x0 => .f2 .bvs
  | 0x1 => .f2 .adcIzy
  | 0x5 => .f2 .adcZpx
  | 0x6 => .f2 .rorZpx
  | 0x8 => .f1 .sei
  | 0x9 => .f3 .adcAby
  | 0xD => .f3 .adcAbx
  | 0xE => .f3 .rorAbx
  | _ => .f1 (.illegal op)

/-- Row 8x of the grid of R98, by the low nibble of the opcode byte; the other columns are illegal (R99). -/
def opcodeRow8 (op : Byte) : Nat → Form
  | 0x1 => .f2 .staIzx
  | 0x4 => .f2 .styZp
  | 0x5 => .f2 .staZp
  | 0x6 => .f2 .stxZp
  | 0x8 => .f1 .dey
  | 0xA => .f1 .txa
  | 0xC => .f3 .styAbs
  | 0xD => .f3 .staAbs
  | 0xE => .f3 .stxAbs
  | _ => .f1 (.illegal op)

/-- Row 9x of the grid of R98, by the low nibble of the opcode byte; the other columns are illegal (R99). -/
def opcodeRow9 (op : Byte) : Nat → Form
  | 0x0 => .f2 .bcc
  | 0x1 => .f2 .staIzy
  | 0x4 => .f2 .styZpx
  | 0x5 => .f2 .staZpx
  | 0x6 => .f2 .stxZpy
  | 0x8 => .f1 .tya
  | 0x9 => .f3 .staAby
  | 0xA => .f1 .txs
  | 0xD => .f3 .staAbx
  | _ => .f1 (.illegal op)

/-- Row Ax of the grid of R98, by the low nibble of the opcode byte; the other columns are illegal (R99). -/
def opcodeRowA (op : Byte) : Nat → Form
  | 0x0 => .f2 .ldyImm
  | 0x1 => .f2 .ldaIzx
  | 0x2 => .f2 .ldxImm
  | 0x4 => .f2 .ldyZp
  | 0x5 => .f2 .ldaZp
  | 0x6 => .f2 .ldxZp
  | 0x8 => .f1 .tay
  | 0x9 => .f2 .ldaImm
  | 0xA => .f1 .tax
  | 0xC => .f3 .ldyAbs
  | 0xD => .f3 .ldaAbs
  | 0xE => .f3 .ldxAbs
  | _ => .f1 (.illegal op)

/-- Row Bx of the grid of R98, by the low nibble of the opcode byte; the other columns are illegal (R99). -/
def opcodeRowB (op : Byte) : Nat → Form
  | 0x0 => .f2 .bcs
  | 0x1 => .f2 .ldaIzy
  | 0x4 => .f2 .ldyZpx
  | 0x5 => .f2 .ldaZpx
  | 0x6 => .f2 .ldxZpy
  | 0x8 => .f1 .clv
  | 0x9 => .f3 .ldaAby
  | 0xA => .f1 .tsx
  | 0xC => .f3 .ldyAbx
  | 0xD => .f3 .ldaAbx
  | 0xE => .f3 .ldxAby
  | _ => .f1 (.illegal op)

/-- Row Cx of the grid of R98, by the low nibble of the opcode byte; the other columns are illegal (R99). -/
def opcodeRowC (op : Byte) : Nat → Form
  | 0x0 => .f2 .cpyImm
  | 0x1 => .f2 .cmpIzx
  | 0x4 => .f2 .cpyZp
  | 0x5 => .f2 .cmpZp
  | 0x6 => .f2 .decZp
  | 0x8 => .f1 .iny
  | 0x9 => .f2 .cmpImm
  | 0xA => .f1 .dex
  | 0xC => .f3 .cpyAbs
  | 0xD => .f3 .cmpAbs
  | 0xE => .f3 .decAbs
  | _ => .f1 (.illegal op)

/-- Row Dx of the grid of R98, by the low nibble of the opcode byte; the other columns are illegal (R99). -/
def opcodeRowD (op : Byte) : Nat → Form
  | 0x0 => .f2 .bne
  | 0x1 => .f2 .cmpIzy
  | 0x5 => .f2 .cmpZpx
  | 0x6 => .f2 .decZpx
  | 0x8 => .f1 .cld
  | 0x9 => .f3 .cmpAby
  | 0xD => .f3 .cmpAbx
  | 0xE => .f3 .decAbx
  | _ => .f1 (.illegal op)

/-- Row Ex of the grid of R98, by the low nibble of the opcode byte; the other columns are illegal (R99). -/
def opcodeRowE (op : Byte) : Nat → Form
  | 0x0 => .f2 .cpxImm
  | 0x1 => .f2 .sbcIzx
  | 0x4 => .f2 .cpxZp
  | 0x5 => .f2 .sbcZp
  | 0x6 => .f2 .incZp
  | 0x8 => .f1 .inx
  | 0x9 => .f2 .sbcImm
  | 0xA => .f1 .nop
  | 0xC => .f3 .cpxAbs
  | 0xD => .f3 .sbcAbs
  | 0xE => .f3 .incAbs
  | _ => .f1 (.illegal op)

/-- Row Fx of the grid of R98, by the low nibble of the opcode byte; the other columns are illegal (R99). -/
def opcodeRowF (op : Byte) : Nat → Form
  | 0x0 => .f2 .beq
  | 0x1 => .f2 .sbcIzy
  | 0x5 => .f2 .sbcZpx
  | 0x6 => .f2 .incZpx
  | 0x8 => .f1 .sed
  | 0x9 => .f3 .sbcAby
  | 0xD => .f3 .sbcAbx
  | 0xE => .f3 .incAbx
  | _ => .f1 (.illegal op)

/-- `Decode` on the opcode byte alone (R84, R87): the whole byte selects the row; it is total, every byte that R98 does
not assign is an illegal opcode (R100). -/
def opcodeForm (op : Byte) : Form :=
  match op.toNat / 16 with
  | 0x0 => opcodeRow0 op (op.toNat % 16)
  | 0x1 => opcodeRow1 op (op.toNat % 16)
  | 0x2 => opcodeRow2 op (op.toNat % 16)
  | 0x3 => opcodeRow3 op (op.toNat % 16)
  | 0x4 => opcodeRow4 op (op.toNat % 16)
  | 0x5 => opcodeRow5 op (op.toNat % 16)
  | 0x6 => opcodeRow6 op (op.toNat % 16)
  | 0x7 => opcodeRow7 op (op.toNat % 16)
  | 0x8 => opcodeRow8 op (op.toNat % 16)
  | 0x9 => opcodeRow9 op (op.toNat % 16)
  | 0xA => opcodeRowA op (op.toNat % 16)
  | 0xB => opcodeRowB op (op.toNat % 16)
  | 0xC => opcodeRowC op (op.toNat % 16)
  | 0xD => opcodeRowD op (op.toNat % 16)
  | 0xE => opcodeRowE op (op.toNat % 16)
  | _ => opcodeRowF op (op.toNat % 16)

/-- Why a list of bytes holds no whole instruction. -/
inductive DecodeError where
  /-- there is no opcode byte -/
  | noOpcode
  /-- the opcode's format has more operand bytes than follow it -/
  | missingOperand (op : Byte)
  deriving DecidableEq, Repr

/-- Decodes the first instruction of a list of bytes and gives the bytes after it (R80 to R83, R87). An illegal opcode
byte decodes to `illegal`, which jams when it runs (R99). -/
def decode : List Byte → Except DecodeError (Instr × List Byte)
  | [] => .error .noOpcode
  | op :: rest =>
    match opcodeForm op, rest with
    | .f1 i, rest => .ok (i, rest)
    | .f2 k, b1 :: rest => .ok (k b1, rest)
    | .f3 k, b1 :: b2 :: rest => .ok (k (word b2 b1), rest)
    | _, _ => .error (.missingOperand op)

/-- The opcode byte of an instruction (R98, R99). -/
def Instr.opcode : Instr → Byte
  | .ldaImm _ => 0xA9
  | .ldaZp _ => 0xA5
  | .ldaZpx _ => 0xB5
  | .ldaAbs _ => 0xAD
  | .ldaAbx _ => 0xBD
  | .ldaAby _ => 0xB9
  | .ldaIzx _ => 0xA1
  | .ldaIzy _ => 0xB1
  | .ldxImm _ => 0xA2
  | .ldxZp _ => 0xA6
  | .ldxZpy _ => 0xB6
  | .ldxAbs _ => 0xAE
  | .ldxAby _ => 0xBE
  | .ldyImm _ => 0xA0
  | .ldyZp _ => 0xA4
  | .ldyZpx _ => 0xB4
  | .ldyAbs _ => 0xAC
  | .ldyAbx _ => 0xBC
  | .staZp _ => 0x85
  | .staZpx _ => 0x95
  | .staAbs _ => 0x8D
  | .staAbx _ => 0x9D
  | .staAby _ => 0x99
  | .staIzx _ => 0x81
  | .staIzy _ => 0x91
  | .stxZp _ => 0x86
  | .stxZpy _ => 0x96
  | .stxAbs _ => 0x8E
  | .styZp _ => 0x84
  | .styZpx _ => 0x94
  | .styAbs _ => 0x8C
  | .tax => 0xAA
  | .tay => 0xA8
  | .txa => 0x8A
  | .tya => 0x98
  | .tsx => 0xBA
  | .txs => 0x9A
  | .pha => 0x48
  | .php => 0x08
  | .pla => 0x68
  | .plp => 0x28
  | .andImm _ => 0x29
  | .andZp _ => 0x25
  | .andZpx _ => 0x35
  | .andAbs _ => 0x2D
  | .andAbx _ => 0x3D
  | .andAby _ => 0x39
  | .andIzx _ => 0x21
  | .andIzy _ => 0x31
  | .oraImm _ => 0x09
  | .oraZp _ => 0x05
  | .oraZpx _ => 0x15
  | .oraAbs _ => 0x0D
  | .oraAbx _ => 0x1D
  | .oraAby _ => 0x19
  | .oraIzx _ => 0x01
  | .oraIzy _ => 0x11
  | .eorImm _ => 0x49
  | .eorZp _ => 0x45
  | .eorZpx _ => 0x55
  | .eorAbs _ => 0x4D
  | .eorAbx _ => 0x5D
  | .eorAby _ => 0x59
  | .eorIzx _ => 0x41
  | .eorIzy _ => 0x51
  | .bitZp _ => 0x24
  | .bitAbs _ => 0x2C
  | .adcImm _ => 0x69
  | .adcZp _ => 0x65
  | .adcZpx _ => 0x75
  | .adcAbs _ => 0x6D
  | .adcAbx _ => 0x7D
  | .adcAby _ => 0x79
  | .adcIzx _ => 0x61
  | .adcIzy _ => 0x71
  | .sbcImm _ => 0xE9
  | .sbcZp _ => 0xE5
  | .sbcZpx _ => 0xF5
  | .sbcAbs _ => 0xED
  | .sbcAbx _ => 0xFD
  | .sbcAby _ => 0xF9
  | .sbcIzx _ => 0xE1
  | .sbcIzy _ => 0xF1
  | .cmpImm _ => 0xC9
  | .cmpZp _ => 0xC5
  | .cmpZpx _ => 0xD5
  | .cmpAbs _ => 0xCD
  | .cmpAbx _ => 0xDD
  | .cmpAby _ => 0xD9
  | .cmpIzx _ => 0xC1
  | .cmpIzy _ => 0xD1
  | .cpxImm _ => 0xE0
  | .cpxZp _ => 0xE4
  | .cpxAbs _ => 0xEC
  | .cpyImm _ => 0xC0
  | .cpyZp _ => 0xC4
  | .cpyAbs _ => 0xCC
  | .incZp _ => 0xE6
  | .incZpx _ => 0xF6
  | .incAbs _ => 0xEE
  | .incAbx _ => 0xFE
  | .decZp _ => 0xC6
  | .decZpx _ => 0xD6
  | .decAbs _ => 0xCE
  | .decAbx _ => 0xDE
  | .inx => 0xE8
  | .iny => 0xC8
  | .dex => 0xCA
  | .dey => 0x88
  | .aslAcc => 0x0A
  | .aslZp _ => 0x06
  | .aslZpx _ => 0x16
  | .aslAbs _ => 0x0E
  | .aslAbx _ => 0x1E
  | .lsrAcc => 0x4A
  | .lsrZp _ => 0x46
  | .lsrZpx _ => 0x56
  | .lsrAbs _ => 0x4E
  | .lsrAbx _ => 0x5E
  | .rolAcc => 0x2A
  | .rolZp _ => 0x26
  | .rolZpx _ => 0x36
  | .rolAbs _ => 0x2E
  | .rolAbx _ => 0x3E
  | .rorAcc => 0x6A
  | .rorZp _ => 0x66
  | .rorZpx _ => 0x76
  | .rorAbs _ => 0x6E
  | .rorAbx _ => 0x7E
  | .jmpAbs _ => 0x4C
  | .jmpInd _ => 0x6C
  | .jsr _ => 0x20
  | .rts => 0x60
  | .bcc _ => 0x90
  | .bcs _ => 0xB0
  | .beq _ => 0xF0
  | .bne _ => 0xD0
  | .bmi _ => 0x30
  | .bpl _ => 0x10
  | .bvc _ => 0x50
  | .bvs _ => 0x70
  | .clc => 0x18
  | .sec => 0x38
  | .cli => 0x58
  | .sei => 0x78
  | .cld => 0xD8
  | .sed => 0xF8
  | .clv => 0xB8
  | .nop => 0xEA
  | .brk => 0x00
  | .rti => 0x40
  | .illegal op => op

/-- The addressing mode of the row with the operand bytes of the instruction (R98). -/
def Instr.operand : Instr → Operand
  | .ldaImm b => .imm b
  | .ldaZp b => .zp b
  | .ldaZpx b => .zpx b
  | .ldaAbs w => .abs w
  | .ldaAbx w => .abx w
  | .ldaAby w => .aby w
  | .ldaIzx b => .izx b
  | .ldaIzy b => .izy b
  | .ldxImm b => .imm b
  | .ldxZp b => .zp b
  | .ldxZpy b => .zpy b
  | .ldxAbs w => .abs w
  | .ldxAby w => .aby w
  | .ldyImm b => .imm b
  | .ldyZp b => .zp b
  | .ldyZpx b => .zpx b
  | .ldyAbs w => .abs w
  | .ldyAbx w => .abx w
  | .staZp b => .zp b
  | .staZpx b => .zpx b
  | .staAbs w => .abs w
  | .staAbx w => .abx w
  | .staAby w => .aby w
  | .staIzx b => .izx b
  | .staIzy b => .izy b
  | .stxZp b => .zp b
  | .stxZpy b => .zpy b
  | .stxAbs w => .abs w
  | .styZp b => .zp b
  | .styZpx b => .zpx b
  | .styAbs w => .abs w
  | .tax => .imp
  | .tay => .imp
  | .txa => .imp
  | .tya => .imp
  | .tsx => .imp
  | .txs => .imp
  | .pha => .imp
  | .php => .imp
  | .pla => .imp
  | .plp => .imp
  | .andImm b => .imm b
  | .andZp b => .zp b
  | .andZpx b => .zpx b
  | .andAbs w => .abs w
  | .andAbx w => .abx w
  | .andAby w => .aby w
  | .andIzx b => .izx b
  | .andIzy b => .izy b
  | .oraImm b => .imm b
  | .oraZp b => .zp b
  | .oraZpx b => .zpx b
  | .oraAbs w => .abs w
  | .oraAbx w => .abx w
  | .oraAby w => .aby w
  | .oraIzx b => .izx b
  | .oraIzy b => .izy b
  | .eorImm b => .imm b
  | .eorZp b => .zp b
  | .eorZpx b => .zpx b
  | .eorAbs w => .abs w
  | .eorAbx w => .abx w
  | .eorAby w => .aby w
  | .eorIzx b => .izx b
  | .eorIzy b => .izy b
  | .bitZp b => .zp b
  | .bitAbs w => .abs w
  | .adcImm b => .imm b
  | .adcZp b => .zp b
  | .adcZpx b => .zpx b
  | .adcAbs w => .abs w
  | .adcAbx w => .abx w
  | .adcAby w => .aby w
  | .adcIzx b => .izx b
  | .adcIzy b => .izy b
  | .sbcImm b => .imm b
  | .sbcZp b => .zp b
  | .sbcZpx b => .zpx b
  | .sbcAbs w => .abs w
  | .sbcAbx w => .abx w
  | .sbcAby w => .aby w
  | .sbcIzx b => .izx b
  | .sbcIzy b => .izy b
  | .cmpImm b => .imm b
  | .cmpZp b => .zp b
  | .cmpZpx b => .zpx b
  | .cmpAbs w => .abs w
  | .cmpAbx w => .abx w
  | .cmpAby w => .aby w
  | .cmpIzx b => .izx b
  | .cmpIzy b => .izy b
  | .cpxImm b => .imm b
  | .cpxZp b => .zp b
  | .cpxAbs w => .abs w
  | .cpyImm b => .imm b
  | .cpyZp b => .zp b
  | .cpyAbs w => .abs w
  | .incZp b => .zp b
  | .incZpx b => .zpx b
  | .incAbs w => .abs w
  | .incAbx w => .abx w
  | .decZp b => .zp b
  | .decZpx b => .zpx b
  | .decAbs w => .abs w
  | .decAbx w => .abx w
  | .inx => .imp
  | .iny => .imp
  | .dex => .imp
  | .dey => .imp
  | .aslAcc => .acc
  | .aslZp b => .zp b
  | .aslZpx b => .zpx b
  | .aslAbs w => .abs w
  | .aslAbx w => .abx w
  | .lsrAcc => .acc
  | .lsrZp b => .zp b
  | .lsrZpx b => .zpx b
  | .lsrAbs w => .abs w
  | .lsrAbx w => .abx w
  | .rolAcc => .acc
  | .rolZp b => .zp b
  | .rolZpx b => .zpx b
  | .rolAbs w => .abs w
  | .rolAbx w => .abx w
  | .rorAcc => .acc
  | .rorZp b => .zp b
  | .rorZpx b => .zpx b
  | .rorAbs w => .abs w
  | .rorAbx w => .abx w
  | .jmpAbs w => .abs w
  | .jmpInd w => .ind w
  | .jsr w => .abs w
  | .rts => .imp
  | .bcc b => .rel b
  | .bcs b => .rel b
  | .beq b => .rel b
  | .bne b => .rel b
  | .bmi b => .rel b
  | .bpl b => .rel b
  | .bvc b => .rel b
  | .bvs b => .rel b
  | .clc => .imp
  | .sec => .imp
  | .cli => .imp
  | .sei => .imp
  | .cld => .imp
  | .sed => .imp
  | .clv => .imp
  | .nop => .imp
  | .brk => .imp
  | .rti => .imp
  | .illegal _ => .imp

/-- The mnemonic of the row (R98, R99). -/
def Instr.mnemonic : Instr → Mnemonic
  | .ldaImm _ => .lda
  | .ldaZp _ => .lda
  | .ldaZpx _ => .lda
  | .ldaAbs _ => .lda
  | .ldaAbx _ => .lda
  | .ldaAby _ => .lda
  | .ldaIzx _ => .lda
  | .ldaIzy _ => .lda
  | .ldxImm _ => .ldx
  | .ldxZp _ => .ldx
  | .ldxZpy _ => .ldx
  | .ldxAbs _ => .ldx
  | .ldxAby _ => .ldx
  | .ldyImm _ => .ldy
  | .ldyZp _ => .ldy
  | .ldyZpx _ => .ldy
  | .ldyAbs _ => .ldy
  | .ldyAbx _ => .ldy
  | .staZp _ => .sta
  | .staZpx _ => .sta
  | .staAbs _ => .sta
  | .staAbx _ => .sta
  | .staAby _ => .sta
  | .staIzx _ => .sta
  | .staIzy _ => .sta
  | .stxZp _ => .stx
  | .stxZpy _ => .stx
  | .stxAbs _ => .stx
  | .styZp _ => .sty
  | .styZpx _ => .sty
  | .styAbs _ => .sty
  | .tax => .tax
  | .tay => .tay
  | .txa => .txa
  | .tya => .tya
  | .tsx => .tsx
  | .txs => .txs
  | .pha => .pha
  | .php => .php
  | .pla => .pla
  | .plp => .plp
  | .andImm _ => .and
  | .andZp _ => .and
  | .andZpx _ => .and
  | .andAbs _ => .and
  | .andAbx _ => .and
  | .andAby _ => .and
  | .andIzx _ => .and
  | .andIzy _ => .and
  | .oraImm _ => .ora
  | .oraZp _ => .ora
  | .oraZpx _ => .ora
  | .oraAbs _ => .ora
  | .oraAbx _ => .ora
  | .oraAby _ => .ora
  | .oraIzx _ => .ora
  | .oraIzy _ => .ora
  | .eorImm _ => .eor
  | .eorZp _ => .eor
  | .eorZpx _ => .eor
  | .eorAbs _ => .eor
  | .eorAbx _ => .eor
  | .eorAby _ => .eor
  | .eorIzx _ => .eor
  | .eorIzy _ => .eor
  | .bitZp _ => .bit
  | .bitAbs _ => .bit
  | .adcImm _ => .adc
  | .adcZp _ => .adc
  | .adcZpx _ => .adc
  | .adcAbs _ => .adc
  | .adcAbx _ => .adc
  | .adcAby _ => .adc
  | .adcIzx _ => .adc
  | .adcIzy _ => .adc
  | .sbcImm _ => .sbc
  | .sbcZp _ => .sbc
  | .sbcZpx _ => .sbc
  | .sbcAbs _ => .sbc
  | .sbcAbx _ => .sbc
  | .sbcAby _ => .sbc
  | .sbcIzx _ => .sbc
  | .sbcIzy _ => .sbc
  | .cmpImm _ => .cmp
  | .cmpZp _ => .cmp
  | .cmpZpx _ => .cmp
  | .cmpAbs _ => .cmp
  | .cmpAbx _ => .cmp
  | .cmpAby _ => .cmp
  | .cmpIzx _ => .cmp
  | .cmpIzy _ => .cmp
  | .cpxImm _ => .cpx
  | .cpxZp _ => .cpx
  | .cpxAbs _ => .cpx
  | .cpyImm _ => .cpy
  | .cpyZp _ => .cpy
  | .cpyAbs _ => .cpy
  | .incZp _ => .inc
  | .incZpx _ => .inc
  | .incAbs _ => .inc
  | .incAbx _ => .inc
  | .decZp _ => .dec
  | .decZpx _ => .dec
  | .decAbs _ => .dec
  | .decAbx _ => .dec
  | .inx => .inx
  | .iny => .iny
  | .dex => .dex
  | .dey => .dey
  | .aslAcc => .asl
  | .aslZp _ => .asl
  | .aslZpx _ => .asl
  | .aslAbs _ => .asl
  | .aslAbx _ => .asl
  | .lsrAcc => .lsr
  | .lsrZp _ => .lsr
  | .lsrZpx _ => .lsr
  | .lsrAbs _ => .lsr
  | .lsrAbx _ => .lsr
  | .rolAcc => .rol
  | .rolZp _ => .rol
  | .rolZpx _ => .rol
  | .rolAbs _ => .rol
  | .rolAbx _ => .rol
  | .rorAcc => .ror
  | .rorZp _ => .ror
  | .rorZpx _ => .ror
  | .rorAbs _ => .ror
  | .rorAbx _ => .ror
  | .jmpAbs _ => .jmp
  | .jmpInd _ => .jmp
  | .jsr _ => .jsr
  | .rts => .rts
  | .bcc _ => .bcc
  | .bcs _ => .bcs
  | .beq _ => .beq
  | .bne _ => .bne
  | .bmi _ => .bmi
  | .bpl _ => .bpl
  | .bvc _ => .bvc
  | .bvs _ => .bvs
  | .clc => .clc
  | .sec => .sec
  | .cli => .cli
  | .sei => .sei
  | .cld => .cld
  | .sed => .sed
  | .clv => .clv
  | .nop => .nop
  | .brk => .brk
  | .rti => .rti
  | .illegal _ => .illegal

/-- The operand bytes in the order they stand in memory: low byte first (R82, R83). -/
def Operand.bytes : Operand → List Byte
  | .imp => []
  | .acc => []
  | .imm b => [b]
  | .zp b => [b]
  | .zpx b => [b]
  | .zpy b => [b]
  | .abs w => [lo8 w, hi8 w]
  | .abx w => [lo8 w, hi8 w]
  | .aby w => [lo8 w, hi8 w]
  | .rel b => [b]
  | .ind w => [lo8 w, hi8 w]
  | .izx b => [b]
  | .izy b => [b]

/-- How many operand bytes a mode has (the fifth column of the table of R85). -/
def Mode.operandBytes : Mode → Nat
  | .imp | .acc => 0
  | .imm | .zp | .zpx | .zpy | .rel | .izx | .izy => 1
  | .abs | .abx | .aby | .ind => 2

/-- The length of an instruction in bytes, by its mode (R80, R95). -/
def Instr.length (i : Instr) : Nat := 1 + i.operand.mode.operandBytes

/-- The bytes of an instruction: the opcode, then the operand bytes (R80 to R83). -/
def encode (i : Instr) : List Byte := i.opcode :: i.operand.bytes

/-- The decoder on a table word: bit 0 is the least significant bit of the first byte, every bit above `nbits` is 0, and
three bytes are laid out, the longest instruction there is (R80). -/
def decodeTableWord (nbits w : Nat) : Option Instr :=
  match decode (wordBytes nbits w) with
  | .ok (i, _) => some i
  | .error _ => none

end Sys2Proof
end

