-- ==== Sys2Proof/Config.lean ====
section
/-! DEFINITION. The parameters of 00_scope.md R9 that the spec leaves open, and the fill of memory at reset. -/

namespace Sys2Proof.Config

/-- `SP_RESET`, the stack pointer `State.reset` starts with. DESIGN CHOICE (log 2): R9 and 70_reset_and_hazards.md R282
leave it open and recommend 0xFF. `resetCore` takes any value. -/
def spReset : Byte := 0xFF

/-- `JMP_IND_PAGE_WRAP` (R9, 30_encoding.md R92): whether the indirect jump takes the high byte of its target from the
page of its pointer's low byte. DESIGN CHOICE (log 3): an open parameter of the spec, so it has no body here. -/
opaque jmpIndPageWrap : Bool

/-- The byte an address that `State.mem` does not list reads as. DESIGN CHOICE (log 1): `INIT_MEM` is the host's
(R9, 70_reset_and_hazards.md R292). Any content can be listed in `State.mem`; this is the fill of the rest. -/
def memoryFill : Byte := 0x00

end Sys2Proof.Config
end

