-- ==== Sys2Proof/Machine/Memory.lean ====
section
/-! DEFINITION. The Bus as plain memory (20_memory.md R50 to R52): a list of cells in one canonical form, the two byte
operations of R51, and the vector read of R62. -/

namespace Sys2Proof.Machine

/-- The memory: the bytes that differ from the fill, by rising address (10_state.md R43). -/
abbrev Memory := List Host.Cell

/-- What an address that is not listed reads as (log 1). -/
def Memory.unlisted : Byte := Config.memoryFill

/-- The byte listed for address `a`, or the fill. -/
def Memory.lookup : Memory → Nat → Byte
  | [], _ => Memory.unlisted
  | (k, v) :: rest, a => if k = a then v else Memory.lookup rest a

/-- One cell, unless the byte is what the address reads as anyway. -/
def Memory.cell (a : Nat) (v : Byte) : Memory := if v = Memory.unlisted then [] else [(a, v)]

/-- Puts byte `v` at address `a`, keeping the addresses rising. -/
def Memory.put : Memory → Nat → Byte → Memory
  | [], a, v => Memory.cell a v
  | (k, w) :: rest, a, v =>
    if a < k then Memory.cell a v ++ (k, w) :: rest
    else if a = k then Memory.cell a v ++ rest
    else (k, w) :: Memory.put rest a v

/-- `MemRead(addr, 1)`, the Bus's `fetch`: total, no side effect (R51, R52). -/
def Memory.read (m : Memory) (a : Word) : Byte := m.lookup a.toNat

/-- `MemWrite(addr, 1, v)`, the Bus's `store`: total, changes that byte and no other (R51, R52). -/
def Memory.write (m : Memory) (a : Word) (v : Byte) : Memory := m.put a.toNat v

/-- Every listed address is at least `low`, the addresses rise, each is below 65536, and no cell holds the fill. -/
def Memory.wfFrom : Nat → Memory → Bool
  | _, [] => true
  | low, (k, v) :: rest =>
    decide (low ≤ k) && decide (k < 65536) && decide (v ≠ Memory.unlisted) && Memory.wfFrom (k + 1) rest

/-- The canonical form: two memories in it that read alike at every address are the same list. -/
def Memory.wf (m : Memory) : Bool := m.wfFrom 0

/-- The 16-bit quantity at address `a`, low byte at `a`, high byte at `a + 1` modulo 65536 (R53, R54); `ReadVector(a)`
of R62. -/
def Memory.readWord (m : Memory) (a : Word) : Word := word (m.read (a + 1)) (m.read a)

end Sys2Proof.Machine
end

