-- ==== Sys2Proof/Machine/State.lean ====
section
/-! DEFINITION. The state of the machine, the closed list of 10_state.md R20, as plain data; why a step could stop; and
the machine right after reset. -/

namespace Sys2Proof.Machine

/-- The seven flags, each one independent bit (10_state.md R29). -/
structure Flags where
  /-- negative (R36) -/
  n : Bool
  /-- overflow (R35) -/
  v : Bool
  /-- break: stored, written by no instruction (R34) -/
  b : Bool
  /-- decimal (R33) -/
  d : Bool
  /-- interrupt-disable (R32) -/
  i : Bool
  /-- zero (R31) -/
  z : Bool
  /-- carry (R30) -/
  c : Bool
  deriving DecidableEq, Repr

/-- The state of the machine: exactly the elements of R20. -/
structure State where
  /-- the accumulator (R21) -/
  a : Byte
  /-- index register X (R22) -/
  x : Byte
  /-- index register Y (R23) -/
  y : Byte
  /-- the stack pointer, an offset into the page 0x0100 (R24) -/
  sp : Byte
  /-- the program counter: at a boundary, the address of the next opcode byte (R26) -/
  pc : Word
  /-- the seven flags (R29) -/
  flags : Flags
  /-- the cycles still owed for the instruction in flight; 0 means that the next tick is a boundary (R40) -/
  cycleDebt : Nat
  /-- the terminal state an illegal opcode enters (R41) -/
  jammed : Bool
  /-- the latched edge of the NMI line (R42) -/
  nmiPending : Bool
  /-- the level of the IRQ line (R42) -/
  irqLine : Bool
  /-- the memory (R43) -/
  mem : Memory
  deriving DecidableEq, Repr

/-- The reasons a step stops with a fault: none. "No behaviour of this core is treated as `fault`"
(93_implementation_defined.md, end of part 1); every Bus access succeeds (60_exceptions.md R248) and Jam is a next
state (R246, log 5). Nobody raises one; safe. -/
inductive Fault where
  deriving DecidableEq, Repr

/-- The reasons a step is refused. -/
inductive Refusal where
  /-- An arm of `exec` that has no meaning yet raises this; none does. Safe. -/
  | notModelled (mnemonic : String)
  deriving DecidableEq, Repr

/-- What an instruction or a tick answers. -/
abbrev Result := Host.Outcome State Fault Refusal

/-- All seven flags 0, as reset leaves them (10_state.md R29, 70_reset_and_hazards.md R283). -/
def Flags.cleared : Flags :=
  { n := false, v := false, b := false, d := false, i := false, z := false, c := false }

/-- The machine right after `Reset()` (10_state.md R46, 70_reset_and_hazards.md R280), with `SP_RESET` as Config
names it (log 2) and a memory that lists nothing (log 1), from which the vector at 0xFFFC reads 0x0000. -/
def State.reset : State :=
  { a := 0, x := 0, y := 0
    sp := Config.spReset
    pc := Memory.readWord [] 0xFFFC
    flags := Flags.cleared
    cycleDebt := 0
    jammed := false
    nmiPending := false
    irqLine := false
    mem := [] }

end Sys2Proof.Machine
end

