-- ==== Sys2Proof/Machine/Flags.lean ====
section
/-! DEFINITION. Every flag computation of the spec: zero and negative, the status byte image, binary and decimal
addition and subtraction, comparison, and the four shifts. -/

namespace Sys2Proof.Machine

/-- `SetZN(v)`: Z is whether the byte is 0, N is its bit 7, no other flag is written (00_scope.md R15). -/
def Flags.setZN (f : Flags) (v : Byte) : Flags := { f with z := decide (v = 0), n := v.getLsbD 7 }

/-- `PackP(b4)`: bit 7 N, 6 V, 5 always 1, 4 the break bit of the pusher, 3 D, 2 I, 1 Z, 0 C (10_state.md R37). The
stored flag B is not read. -/
def Flags.packP (f : Flags) (b4 : Bool) : Byte :=
  BitVec.ofNat 8 (f.n.toNat * 128 + f.v.toNat * 64 + 32 + b4.toNat * 16 + f.d.toNat * 8 + f.i.toNat * 4 +
    f.z.toNat * 2 + f.c.toNat)

/-- `UnpackP(v)`: loads N, V, D, I, Z, C; bits 5 and 4 are ignored, B is not written (10_state.md R38). -/
def Flags.unpackP (f : Flags) (v : Byte) : Flags :=
  { f with n := v.getLsbD 7, v := v.getLsbD 6, d := v.getLsbD 3, i := v.getLsbD 2, z := v.getLsbD 1, c := v.getLsbD 0 }

/-- The result byte of an addition or subtraction with the four flags it writes (44_arithmetic.md R150). -/
structure AluResult where
  result : Byte
  c : Bool
  z : Bool
  v : Bool
  n : Bool
  deriving DecidableEq, Repr

/-- The result byte with its Z and N as R150 gives them, and the carry and overflow beside it. -/
def aluResult (result : Byte) (c v : Bool) : AluResult :=
  { result := result, c := c, z := decide (result = 0), v := v, n := result.getLsbD 7 }

/-- `AddBinary(a, m, cin)` (44_arithmetic.md R150). -/
def addBinary (a m : Byte) (cin : Bool) : AluResult :=
  let sum := a.toNat + m.toNat + cin.toNat
  let result := BitVec.ofNat 8 sum
  aluResult result (decide (255 < sum)) (a.getLsbD 7 == m.getLsbD 7 && result.getLsbD 7 != a.getLsbD 7)

/-- `DecAdc(a, m, cin)`, the reference definition of 44_arithmetic.md R153. DESIGN CHOICE (log 4): R9 lists DecAdc among
the parameters; on valid BCD operands R152 fixes the result byte and the carry. -/
def decAdc (a m : Byte) (cin : Bool) : AluResult :=
  let lo := a.toNat % 16 + m.toNat % 16 + cin.toNat
  let lo := if 9 < lo then lo + 6 else lo
  let hi := a.toNat / 16 + m.toNat / 16 + (if 15 < lo then 1 else 0)
  let hi := if 9 < hi then hi + 6 else hi
  let result := BitVec.ofNat 8 (hi % 16 * 16 + lo % 16)
  aluResult result (decide (15 < hi)) (a.getLsbD 7 == m.getLsbD 7 && result.getLsbD 7 != a.getLsbD 7)

/-- `DecSbc(a, m, cin)`, the reference definition of 44_arithmetic.md R156; `borrowIn` is `1 - cin`. DESIGN CHOICE
(log 4): R9 lists DecSbc among the parameters; on valid BCD operands R155 fixes the result byte and the carry. -/
def decSbc (a m : Byte) (cin : Bool) : AluResult :=
  let borrowIn : Int := (!cin).toNat
  let lo : Int := (a.toNat % 16 : Nat) - (m.toNat % 16 : Nat) - borrowIn
  let borrow := decide (lo < 0)
  let lo := if borrow then lo - 6 else lo
  let hi : Int := (a.toNat / 16 : Nat) - (m.toNat / 16 : Nat) - (if borrow then 1 else 0)
  let hi := if hi < 0 then hi - 6 else hi
  let result := BitVec.ofInt 8 (hi % 16 * 16 + lo % 16)
  aluResult result (decide (0 ≤ (a.toNat : Int) - m.toNat - borrowIn))
    (a.getLsbD 7 != m.getLsbD 7 && result.getLsbD 7 != a.getLsbD 7)

/-- The addition ADC performs, by the flag D (44_arithmetic.md R151). -/
def adcResult (d : Bool) (a m : Byte) (cin : Bool) : AluResult :=
  if d then decAdc a m cin else addBinary a m cin

/-- The subtraction SBC performs, by the flag D: in binary mode the addition of the one's complement
(44_arithmetic.md R154). -/
def sbcResult (d : Bool) (a m : Byte) (cin : Bool) : AluResult :=
  if d then decSbc a m cin else addBinary a (~~~m) cin

/-- Writes C, Z, V, N from an ALU result; D, I, B keep their values (R151, R154). -/
def Flags.setAlu (f : Flags) (r : AluResult) : Flags := { f with c := r.c, z := r.z, v := r.v, n := r.n }

/-- `Compare(r, m)`: always binary, writes C, Z, N (44_arithmetic.md R157). -/
def Flags.compare (f : Flags) (r m : Byte) : Flags :=
  { f with c := decide (m.toNat ≤ r.toNat), z := decide (r = m), n := (r - m).getLsbD 7 }

/-- BIT's flags: Z from the and of A and the operand, N and V from the operand's bits 7 and 6 (43_logic.md R143). -/
def Flags.bitTest (f : Flags) (a m : Byte) : Flags :=
  { f with z := decide (a &&& m = 0), n := m.getLsbD 7, v := m.getLsbD 6 }

/-- A shift or rotate: the new operand and the new carry. -/
structure Shifted where
  value : Byte
  c : Bool
  deriving DecidableEq, Repr

/-- ASL: 0 enters bit 0, the old bit 7 is the carry (46_shift.md R181). -/
def shiftLeft (m : Byte) (_ : Bool) : Shifted := { value := BitVec.ofNat 8 (m.toNat * 2), c := m.getLsbD 7 }

/-- LSR: 0 enters bit 7, the old bit 0 is the carry (46_shift.md R182). -/
def shiftRight (m : Byte) (_ : Bool) : Shifted := { value := BitVec.ofNat 8 (m.toNat / 2), c := m.getLsbD 0 }

/-- ROL: the old carry enters bit 0, the old bit 7 is the carry (46_shift.md R183). -/
def rotateLeft (m : Byte) (cin : Bool) : Shifted :=
  { value := BitVec.ofNat 8 (m.toNat * 2 % 256 + cin.toNat), c := m.getLsbD 7 }

/-- ROR: the old carry enters bit 7, the old bit 0 is the carry (46_shift.md R184). -/
def rotateRight (m : Byte) (cin : Bool) : Shifted :=
  { value := BitVec.ofNat 8 (m.toNat / 2 + cin.toNat * 128), c := m.getLsbD 0 }

end Sys2Proof.Machine
end

