-- ==== Sys2Proof/Machine/Ops.lean ====
section
/-! DEFINITION. The named operations over registers, stack and memory; entering an exception, returning from one, and
jamming; and the frame in which every instruction runs (40_load_store.md R110). -/

namespace Sys2Proof.Machine

/-- The NMI vector (20_memory.md R62). -/
def nmiVector : Word := 0xFFFA

/-- The reset vector (20_memory.md R62). -/
def resetVector : Word := 0xFFFC

/-- The vector IRQ and BRK share (20_memory.md R62). -/
def irqVector : Word := 0xFFFE

/-! Writing one register. -/

def State.setA (s : State) (v : Byte) : State := { s with a := v }
def State.setX (s : State) (v : Byte) : State := { s with x := v }
def State.setY (s : State) (v : Byte) : State := { s with y := v }
def State.setSp (s : State) (v : Byte) : State := { s with sp := v }
def State.setPc (s : State) (w : Word) : State := { s with pc := w }
def State.setFlags (s : State) (f : Flags) : State := { s with flags := f }
def State.setDebt (s : State) (n : Nat) : State := { s with cycleDebt := n }

/-- `SetZN(v)` on the machine's flags (00_scope.md R15). -/
def State.setZN (s : State) (v : Byte) : State := s.setFlags (s.flags.setZN v)

/-- A load of a byte from memory (20_memory.md R51). -/
def State.load (s : State) (a : Word) : Byte := s.mem.read a

/-- A store of a byte to memory (20_memory.md R51). -/
def State.store (s : State) (a : Word) (v : Byte) : State := { s with mem := s.mem.write a v }

/-- `ReadVector(a)`: the low byte at `a`, the high byte at `a + 1` (20_memory.md R62). -/
def State.readVector (s : State) (a : Word) : Word := s.mem.readWord a

/-! The stack (20_memory.md R58 to R60). -/

/-- The address a stack pointer names, always in 0x0100..0x01FF (10_state.md R24). -/
def stackAddr (sp : Byte) : Word := word 0x01 sp

/-- `Push8(v)`: writes at the stack pointer, then decrements it modulo 256 (R58). -/
def State.push8 (s : State) (v : Byte) : State := (s.store (stackAddr s.sp) v).setSp (s.sp - 1)

/-- The byte `Pull8()` returns: the one above the stack pointer (R59). -/
def State.pulled8 (s : State) : Byte := s.load (stackAddr (s.sp + 1))

/-- What `Pull8()` does to the state: it increments the stack pointer modulo 256 (R59). -/
def State.pull8 (s : State) : State := s.setSp (s.sp + 1)

/-- `PushWord(w)`: the high byte, then the low byte (R60). -/
def State.pushWord (s : State) (w : Word) : State := (s.push8 (hi8 w)).push8 (lo8 w)

/-- The word `PullWord()` returns: the low byte is pulled first (R60). -/
def State.pulledWord (s : State) : Word := word s.pull8.pulled8 s.pulled8

/-- What `PullWord()` does to the state (R60). -/
def State.pullWord (s : State) : State := s.pull8.pull8

/-! Exceptions. -/

/-- Taking an exception, shared by NMI, IRQ and BRK: pushes the return address and the status byte image with the break
bit `b4`, sets I, and goes to the address the vector holds (60_exceptions.md R252, 49_flag_system.md R223). The image
holds the old I; D and every other flag keep their values. -/
def State.enterVector (s : State) (vector returnPc : Word) (b4 : Bool) : State :=
  let pushed := (s.pushWord returnPc).push8 (s.flags.packP b4)
  (pushed.setFlags { s.flags with i := true }).setPc (pushed.readVector vector)

/-- `Interrupt(vector, b4)` with b4 = 0, the entry of NMI and IRQ: the return address is the instruction that was not
fetched, and the entry lasts 7 cycles, this tick among them (60_exceptions.md R240, R252). -/
def State.interrupt (s : State) (vector : Word) : State := (s.enterVector vector s.pc false).setDebt 6

/-- Taking the NMI clears its latch (60_exceptions.md R240, R249). -/
def State.takeNmi (s : State) : State := { s with nmiPending := false }.interrupt nmiVector

/-- Taking the IRQ leaves the line as it is (60_exceptions.md R240, R250). -/
def State.takeIrq (s : State) : State := s.interrupt irqVector

/-- Returning from an exception: pulls the status byte into N, V, D, I, Z, C, then pulls PC (49_flag_system.md R224,
60_exceptions.md R256). -/
def State.returnFromInterrupt (s : State) : State :=
  let restored := s.pull8.setFlags (s.flags.unpackP s.pulled8)
  restored.pullWord.setPc restored.pulledWord

/-- `raise Jam`: the core enters its terminal state and owes no cycle (60_exceptions.md R246). -/
def State.jam (s : State) : State := { s with jammed := true, cycleDebt := 0 }

/-- A counting tick only decrements the debt (60_exceptions.md R242). -/
def State.countDown (s : State) : State := s.setDebt (s.cycleDebt - 1)

/-! The frame of an instruction. -/

/-- PC after the opcode byte and every operand byte were fetched (10_state.md R27, R28). -/
def State.pastInstr (s : State) (o : Operand) : State :=
  s.setPc (s.pc + BitVec.ofNat 16 (1 + o.mode.operandBytes))

/-- The effect of one instruction on a state whose PC is past the instruction, with the extra cycles it reports. -/
abbrev Handler := Operand → State → State × Nat

/-- A handler that reports no extra cycle (30_encoding.md R94). -/
def noExtra (f : Operand → State → State) : Handler := fun o s => (f o s, 0)

/-- Runs an instruction in the boundary tick that fetches it: PC moves past its bytes, the handler has its whole effect,
and `cycle_debt` becomes base + extra - 1 (40_load_store.md R110, 60_exceptions.md R240). -/
def run (base : Nat) (o : Operand) (h : Handler) (s : State) : Result :=
  let r := h o (s.pastInstr o)
  .next (r.1.setDebt (base + r.2 - 1))

end Sys2Proof.Machine
end

