-- ==== Sys2Proof/Machine/Operands.lean ====
section
/-! DEFINITION. The addressing modes (30_encoding.md R85 to R93): the effective address and the page-cross flag of each
of the thirteen, and reading and writing an operand. -/

namespace Sys2Proof.Machine

/-- The address of the second byte of a zero-page pointer: it wraps inside page zero (30_encoding.md R92). -/
def zpPointerHigh (z : Byte) : Word := zext16 (z + 1)

/-- The word stored at a zero-page pointer (30_encoding.md R88, R92). -/
def State.zpPointer (s : State) (z : Byte) : Word := word (s.load (zpPointerHigh z)) (s.load (zext16 z))

/-- The address of the second byte of the indirect jump's pointer (30_encoding.md R88, R92): the next address, but for a
pointer at the last byte of a page, where `JMP_IND_PAGE_WRAP` decides between the first byte of that page and the
next address. -/
def indPointerHigh (wrap : Bool) (w : Word) : Word :=
  if lo8 w = 0xFF ∧ wrap = true then word (hi8 w) 0x00 else w + 1

/-- What `Resolve` returns: the effective address, absent for IMP and ACC, and whether the computation crossed a page. -/
structure Resolved where
  ea : Option Word
  crossed : Bool
  deriving DecidableEq, Repr

/-- An indexed address and whether it left the page of its base (30_encoding.md R91). -/
def indexed (base : Word) (index : Word) : Resolved :=
  { ea := some (base + index), crossed := page (base + index) != page base }

/-- An address that no index can move off its page. -/
def direct (a : Word) : Resolved := { ea := some a, crossed := false }

/-- `Resolve(mode)` on a state whose PC is past the operand bytes (30_encoding.md R88). The operand bytes are in the
operand; for IMM the effective address is that of the operand byte, one before PC. -/
def resolve (o : Operand) (s : State) : Resolved :=
  match o with
  | .imp => { ea := none, crossed := false }
  | .acc => { ea := none, crossed := false }
  | .imm _ => direct (s.pc - 1)
  | .zp b => direct (zext16 b)
  | .zpx b => direct (zext16 (b + s.x))
  | .zpy b => direct (zext16 (b + s.y))
  | .abs w => direct w
  | .abx w => indexed w (zext16 s.x)
  | .aby w => indexed w (zext16 s.y)
  | .rel b => indexed s.pc (sext16 b)
  | .ind w => direct (word (s.load (indPointerHigh Config.jmpIndPageWrap w)) (s.load w))
  | .izx b => direct (s.zpPointer (b + s.x))
  | .izy b => indexed (s.zpPointer b) (zext16 s.y)

/-- The operand byte `M` an instruction reads: in IMM mode the operand byte itself, in ACC mode the register A, else the
byte at the effective address (30_encoding.md R93, 46_shift.md R180). -/
def readOp (o : Operand) (s : State) : Byte :=
  match o, (resolve o s).ea with
  | .imm b, _ => b
  | _, some ea => s.load ea
  | _, none => s.a

/-- Writes a byte to the operand: in ACC mode to the register A, else at the effective address (30_encoding.md R93,
46_shift.md R180). -/
def writeOp (o : Operand) (v : Byte) (s : State) : State :=
  match (resolve o s).ea with
  | some ea => s.store ea v
  | none => s.setA v

/-- An instruction of class `read`: it reads its operand and pays one cycle more when the index crossed a page
(30_encoding.md R94, R96). -/
def readClass (f : Byte → State → State) : Handler := fun o s =>
  (f (readOp o s) s, if (resolve o s).crossed then 1 else 0)

/-- A jump to the effective address (47_jump.md R190). -/
def jumpTo (o : Operand) (s : State) : State :=
  match (resolve o s).ea with
  | some ea => s.setPc ea
  | none => s

end Sys2Proof.Machine
end

