-- ==== Sys2Proof/Machine/Arithmetic.lean ====
section
/-! DEFINITION. Addition, subtraction, comparison (44_arithmetic.md R150 to R161). Each `exec…` is one row of the opcode
table: its base cycles, its mode and its handler. -/

namespace Sys2Proof.Machine

/-- A and C, Z, V, N from an ALU result (R151, R154). -/
def State.accumulateAlu (s : State) (r : AluResult) : State := (s.setA r.result).setFlags (s.flags.setAlu r)

/-- ADC, binary or decimal by the flag D (R151). -/
def adcHandler : Handler := readClass fun m s => s.accumulateAlu (adcResult s.flags.d s.a m s.flags.c)

/-- SBC, binary or decimal by the flag D (R154). -/
def sbcHandler : Handler := readClass fun m s => s.accumulateAlu (sbcResult s.flags.d s.a m s.flags.c)

/-- CMP (R158). -/
def cmpHandler : Handler := readClass fun m s => s.setFlags (s.flags.compare s.a m)

/-- CPX (R159). -/
def cpxHandler : Handler := readClass fun m s => s.setFlags (s.flags.compare s.x m)

/-- CPY (R160). -/
def cpyHandler : Handler := readClass fun m s => s.setFlags (s.flags.compare s.y m)

/-- 69, ADC IMM, 2 bytes, 2 cycles (R151). -/
def execAdcImm (b : Byte) (s : State) : Result := run 2 (.imm b) adcHandler s

/-- 65, ADC ZP, 2 bytes, 3 cycles (R151). -/
def execAdcZp (b : Byte) (s : State) : Result := run 3 (.zp b) adcHandler s

/-- 75, ADC ZPX, 2 bytes, 4 cycles (R151). -/
def execAdcZpx (b : Byte) (s : State) : Result := run 4 (.zpx b) adcHandler s

/-- 6D, ADC ABS, 3 bytes, 4 cycles (R151). -/
def execAdcAbs (w : Word) (s : State) : Result := run 4 (.abs w) adcHandler s

/-- 7D, ADC ABX, 3 bytes, 4 cycles and 1 on a page cross (R151). -/
def execAdcAbx (w : Word) (s : State) : Result := run 4 (.abx w) adcHandler s

/-- 79, ADC ABY, 3 bytes, 4 cycles and 1 on a page cross (R151). -/
def execAdcAby (w : Word) (s : State) : Result := run 4 (.aby w) adcHandler s

/-- 61, ADC IZX, 2 bytes, 6 cycles (R151). -/
def execAdcIzx (b : Byte) (s : State) : Result := run 6 (.izx b) adcHandler s

/-- 71, ADC IZY, 2 bytes, 5 cycles and 1 on a page cross (R151). -/
def execAdcIzy (b : Byte) (s : State) : Result := run 5 (.izy b) adcHandler s

/-- E9, SBC IMM, 2 bytes, 2 cycles (R154). -/
def execSbcImm (b : Byte) (s : State) : Result := run 2 (.imm b) sbcHandler s

/-- E5, SBC ZP, 2 bytes, 3 cycles (R154). -/
def execSbcZp (b : Byte) (s : State) : Result := run 3 (.zp b) sbcHandler s

/-- F5, SBC ZPX, 2 bytes, 4 cycles (R154). -/
def execSbcZpx (b : Byte) (s : State) : Result := run 4 (.zpx b) sbcHandler s

/-- ED, SBC ABS, 3 bytes, 4 cycles (R154). -/
def execSbcAbs (w : Word) (s : State) : Result := run 4 (.abs w) sbcHandler s

/-- FD, SBC ABX, 3 bytes, 4 cycles and 1 on a page cross (R154). -/
def execSbcAbx (w : Word) (s : State) : Result := run 4 (.abx w) sbcHandler s

/-- F9, SBC ABY, 3 bytes, 4 cycles and 1 on a page cross (R154). -/
def execSbcAby (w : Word) (s : State) : Result := run 4 (.aby w) sbcHandler s

/-- E1, SBC IZX, 2 bytes, 6 cycles (R154). -/
def execSbcIzx (b : Byte) (s : State) : Result := run 6 (.izx b) sbcHandler s

/-- F1, SBC IZY, 2 bytes, 5 cycles and 1 on a page cross (R154). -/
def execSbcIzy (b : Byte) (s : State) : Result := run 5 (.izy b) sbcHandler s

/-- C9, CMP IMM, 2 bytes, 2 cycles (R158). -/
def execCmpImm (b : Byte) (s : State) : Result := run 2 (.imm b) cmpHandler s

/-- C5, CMP ZP, 2 bytes, 3 cycles (R158). -/
def execCmpZp (b : Byte) (s : State) : Result := run 3 (.zp b) cmpHandler s

/-- D5, CMP ZPX, 2 bytes, 4 cycles (R158). -/
def execCmpZpx (b : Byte) (s : State) : Result := run 4 (.zpx b) cmpHandler s

/-- CD, CMP ABS, 3 bytes, 4 cycles (R158). -/
def execCmpAbs (w : Word) (s : State) : Result := run 4 (.abs w) cmpHandler s

/-- DD, CMP ABX, 3 bytes, 4 cycles and 1 on a page cross (R158). -/
def execCmpAbx (w : Word) (s : State) : Result := run 4 (.abx w) cmpHandler s

/-- D9, CMP ABY, 3 bytes, 4 cycles and 1 on a page cross (R158). -/
def execCmpAby (w : Word) (s : State) : Result := run 4 (.aby w) cmpHandler s

/-- C1, CMP IZX, 2 bytes, 6 cycles (R158). -/
def execCmpIzx (b : Byte) (s : State) : Result := run 6 (.izx b) cmpHandler s

/-- D1, CMP IZY, 2 bytes, 5 cycles and 1 on a page cross (R158). -/
def execCmpIzy (b : Byte) (s : State) : Result := run 5 (.izy b) cmpHandler s

/-- E0, CPX IMM, 2 bytes, 2 cycles (R159). -/
def execCpxImm (b : Byte) (s : State) : Result := run 2 (.imm b) cpxHandler s

/-- E4, CPX ZP, 2 bytes, 3 cycles (R159). -/
def execCpxZp (b : Byte) (s : State) : Result := run 3 (.zp b) cpxHandler s

/-- EC, CPX ABS, 3 bytes, 4 cycles (R159). -/
def execCpxAbs (w : Word) (s : State) : Result := run 4 (.abs w) cpxHandler s

/-- C0, CPY IMM, 2 bytes, 2 cycles (R160). -/
def execCpyImm (b : Byte) (s : State) : Result := run 2 (.imm b) cpyHandler s

/-- C4, CPY ZP, 2 bytes, 3 cycles (R160). -/
def execCpyZp (b : Byte) (s : State) : Result := run 3 (.zp b) cpyHandler s

/-- CC, CPY ABS, 3 bytes, 4 cycles (R160). -/
def execCpyAbs (w : Word) (s : State) : Result := run 4 (.abs w) cpyHandler s

end Sys2Proof.Machine
end

