-- ==== Sys2Proof/Machine/Branch.lean ====
section
/-! DEFINITION. Conditional branches (48_branch.md R200 to R209). Each `exec…` is one row of the opcode
table: its base cycles, its mode and its handler. -/

namespace Sys2Proof.Machine

/-- `Branch(cond)`: not taken, nothing but the fetch; taken, PC goes to the target for one cycle more, or two when the
target is in another page than the next instruction (R200). -/
def branch (cond : Flags → Bool) : Handler := fun o s =>
  if cond s.flags then (jumpTo o s, if (resolve o s).crossed then 2 else 1) else (s, 0)

/-- BCC (R201). -/
def bccHandler : Handler := branch fun f => !f.c

/-- BCS (R202). -/
def bcsHandler : Handler := branch fun f => f.c

/-- BEQ (R203). -/
def beqHandler : Handler := branch fun f => f.z

/-- BNE (R204). -/
def bneHandler : Handler := branch fun f => !f.z

/-- BMI (R205). -/
def bmiHandler : Handler := branch fun f => f.n

/-- BPL (R206). -/
def bplHandler : Handler := branch fun f => !f.n

/-- BVC (R207). -/
def bvcHandler : Handler := branch fun f => !f.v

/-- BVS (R208). -/
def bvsHandler : Handler := branch fun f => f.v

/-- 90, BCC REL, 2 bytes, 2 cycles, 1 or 2 more when taken (R201). -/
def execBcc (b : Byte) (s : State) : Result := run 2 (.rel b) bccHandler s

/-- B0, BCS REL, 2 bytes, 2 cycles, 1 or 2 more when taken (R202). -/
def execBcs (b : Byte) (s : State) : Result := run 2 (.rel b) bcsHandler s

/-- F0, BEQ REL, 2 bytes, 2 cycles, 1 or 2 more when taken (R203). -/
def execBeq (b : Byte) (s : State) : Result := run 2 (.rel b) beqHandler s

/-- D0, BNE REL, 2 bytes, 2 cycles, 1 or 2 more when taken (R204). -/
def execBne (b : Byte) (s : State) : Result := run 2 (.rel b) bneHandler s

/-- 30, BMI REL, 2 bytes, 2 cycles, 1 or 2 more when taken (R205). -/
def execBmi (b : Byte) (s : State) : Result := run 2 (.rel b) bmiHandler s

/-- 10, BPL REL, 2 bytes, 2 cycles, 1 or 2 more when taken (R206). -/
def execBpl (b : Byte) (s : State) : Result := run 2 (.rel b) bplHandler s

/-- 50, BVC REL, 2 bytes, 2 cycles, 1 or 2 more when taken (R207). -/
def execBvc (b : Byte) (s : State) : Result := run 2 (.rel b) bvcHandler s

/-- 70, BVS REL, 2 bytes, 2 cycles, 1 or 2 more when taken (R208). -/
def execBvs (b : Byte) (s : State) : Result := run 2 (.rel b) bvsHandler s

end Sys2Proof.Machine
end

