-- ==== Sys2Proof/Machine/FlagSystem.lean ====
section
/-! DEFINITION. Flag instructions, NOP, BRK, RTI, and the illegal opcodes (49_flag_system.md R215 to R229). Each `exec…` is one row of the opcode
table: its base cycles, its mode and its handler. -/

namespace Sys2Proof.Machine

/-- CLC (R215). -/
def clcHandler : Handler := noExtra fun _ s => s.setFlags { s.flags with c := false }

/-- SEC (R216). -/
def secHandler : Handler := noExtra fun _ s => s.setFlags { s.flags with c := true }

/-- CLI (R217). -/
def cliHandler : Handler := noExtra fun _ s => s.setFlags { s.flags with i := false }

/-- SEI (R218). -/
def seiHandler : Handler := noExtra fun _ s => s.setFlags { s.flags with i := true }

/-- CLD (R219). -/
def cldHandler : Handler := noExtra fun _ s => s.setFlags { s.flags with d := false }

/-- SED (R220). -/
def sedHandler : Handler := noExtra fun _ s => s.setFlags { s.flags with d := true }

/-- CLV (R221). -/
def clvHandler : Handler := noExtra fun _ s => s.setFlags { s.flags with v := false }

/-- NOP: nothing after the opcode fetch (R222). -/
def nopHandler : Handler := noExtra fun _ s => s

/-- BRK: enters the IRQ/BRK vector with the break bit set; the return address skips the byte after the opcode, which is
never read (R223). -/
def brkHandler : Handler := noExtra fun _ s => s.enterVector irqVector (s.pc + 1) true

/-- RTI (R224). -/
def rtiHandler : Handler := noExtra fun _ s => s.returnFromInterrupt

/-- 18, CLC IMP, 1 byte, 2 cycles (R215). -/
def execClc (s : State) : Result := run 2 .imp clcHandler s

/-- 38, SEC IMP, 1 byte, 2 cycles (R216). -/
def execSec (s : State) : Result := run 2 .imp secHandler s

/-- 58, CLI IMP, 1 byte, 2 cycles (R217). -/
def execCli (s : State) : Result := run 2 .imp cliHandler s

/-- 78, SEI IMP, 1 byte, 2 cycles (R218). -/
def execSei (s : State) : Result := run 2 .imp seiHandler s

/-- D8, CLD IMP, 1 byte, 2 cycles (R219). -/
def execCld (s : State) : Result := run 2 .imp cldHandler s

/-- F8, SED IMP, 1 byte, 2 cycles (R220). -/
def execSed (s : State) : Result := run 2 .imp sedHandler s

/-- B8, CLV IMP, 1 byte, 2 cycles (R221). -/
def execClv (s : State) : Result := run 2 .imp clvHandler s

/-- EA, NOP IMP, 1 byte, 2 cycles (R222). -/
def execNop (s : State) : Result := run 2 .imp nopHandler s

/-- 00, BRK IMP, 1 byte, 7 cycles (R223). -/
def execBrk (s : State) : Result := run 7 .imp brkHandler s

/-- 40, RTI IMP, 1 byte, 6 cycles (R224). -/
def execRti (s : State) : Result := run 6 .imp rtiHandler s

/-- The 105 illegal opcodes: PC goes back to the address of the illegal byte, and the core jams; no other register, no
flag and no memory byte changes (R229, 60_exceptions.md R246). A NEXT state, not a fault (log 5). -/
def execIllegal (_op : Byte) (s : State) : Result :=
  let fetched := s.pastInstr .imp
  .next (fetched.setPc (fetched.pc - 1)).jam

end Sys2Proof.Machine
end

