-- ==== Sys2Proof/Machine/IncDec.lean ====
section
/-! DEFINITION. Increments and decrements (45_incdec.md R170 to R176). Each `exec…` is one row of the opcode
table: its base cycles, its mode and its handler. -/

namespace Sys2Proof.Machine

/-- INC: one read and one write of the operand; Z, N from the new value (R170). -/
def incHandler : Handler := noExtra fun o s => (writeOp o (readOp o s + 1) s).setZN (readOp o s + 1)

/-- DEC (R171). -/
def decHandler : Handler := noExtra fun o s => (writeOp o (readOp o s - 1) s).setZN (readOp o s - 1)

/-- INX (R172). -/
def inxHandler : Handler := noExtra fun _ s => (s.setX (s.x + 1)).setZN (s.x + 1)

/-- INY (R173). -/
def inyHandler : Handler := noExtra fun _ s => (s.setY (s.y + 1)).setZN (s.y + 1)

/-- DEX (R174). -/
def dexHandler : Handler := noExtra fun _ s => (s.setX (s.x - 1)).setZN (s.x - 1)

/-- DEY (R175). -/
def deyHandler : Handler := noExtra fun _ s => (s.setY (s.y - 1)).setZN (s.y - 1)

/-- E6, INC ZP, 2 bytes, 5 cycles (R170). -/
def execIncZp (b : Byte) (s : State) : Result := run 5 (.zp b) incHandler s

/-- F6, INC ZPX, 2 bytes, 6 cycles (R170). -/
def execIncZpx (b : Byte) (s : State) : Result := run 6 (.zpx b) incHandler s

/-- EE, INC ABS, 3 bytes, 6 cycles (R170). -/
def execIncAbs (w : Word) (s : State) : Result := run 6 (.abs w) incHandler s

/-- FE, INC ABX, 3 bytes, 7 cycles (R170). -/
def execIncAbx (w : Word) (s : State) : Result := run 7 (.abx w) incHandler s

/-- C6, DEC ZP, 2 bytes, 5 cycles (R171). -/
def execDecZp (b : Byte) (s : State) : Result := run 5 (.zp b) decHandler s

/-- D6, DEC ZPX, 2 bytes, 6 cycles (R171). -/
def execDecZpx (b : Byte) (s : State) : Result := run 6 (.zpx b) decHandler s

/-- CE, DEC ABS, 3 bytes, 6 cycles (R171). -/
def execDecAbs (w : Word) (s : State) : Result := run 6 (.abs w) decHandler s

/-- DE, DEC ABX, 3 bytes, 7 cycles (R171). -/
def execDecAbx (w : Word) (s : State) : Result := run 7 (.abx w) decHandler s

/-- E8, INX IMP, 1 byte, 2 cycles (R172). -/
def execInx (s : State) : Result := run 2 .imp inxHandler s

/-- C8, INY IMP, 1 byte, 2 cycles (R173). -/
def execIny (s : State) : Result := run 2 .imp inyHandler s

/-- CA, DEX IMP, 1 byte, 2 cycles (R174). -/
def execDex (s : State) : Result := run 2 .imp dexHandler s

/-- 88, DEY IMP, 1 byte, 2 cycles (R175). -/
def execDey (s : State) : Result := run 2 .imp deyHandler s

end Sys2Proof.Machine
end

