-- ==== Sys2Proof/Machine/Jump.lean ====
section
/-! DEFINITION. Jumps and subroutines (47_jump.md R190 to R193). Each `exec…` is one row of the opcode
table: its base cycles, its mode and its handler. -/

namespace Sys2Proof.Machine

/-- JMP: only PC changes (R190). -/
def jmpHandler : Handler := noExtra jumpTo

/-- JSR: pushes the address of its last byte; the target was fetched before anything is pushed (R191). -/
def jsrHandler : Handler := noExtra fun o s =>
  match (resolve o s).ea with
  | some ea => (s.pushWord (s.pc - 1)).setPc ea
  | none => s

/-- RTS: the word pulled, plus one (R192). -/
def rtsHandler : Handler := noExtra fun _ s => s.pullWord.setPc (s.pulledWord + 1)

/-- 4C, JMP ABS, 3 bytes, 3 cycles (R190). -/
def execJmpAbs (w : Word) (s : State) : Result := run 3 (.abs w) jmpHandler s

/-- 6C, JMP IND, 3 bytes, 5 cycles (R190). -/
def execJmpInd (w : Word) (s : State) : Result := run 5 (.ind w) jmpHandler s

/-- 20, JSR ABS, 3 bytes, 6 cycles (R191). -/
def execJsr (w : Word) (s : State) : Result := run 6 (.abs w) jsrHandler s

/-- 60, RTS IMP, 1 byte, 6 cycles (R192). -/
def execRts (s : State) : Result := run 6 .imp rtsHandler s

end Sys2Proof.Machine
end

