-- ==== Sys2Proof/Machine/LoadStore.lean ====
section
/-! DEFINITION. Loads and stores (40_load_store.md R111 to R117). Each `exec…` is one row of the opcode
table: its base cycles, its mode and its handler. -/

namespace Sys2Proof.Machine

/-- LDA: A and Z, N from the operand (R111). -/
def ldaHandler : Handler := readClass fun m s => (s.setA m).setZN m

/-- LDX: X and Z, N from the operand (R112). -/
def ldxHandler : Handler := readClass fun m s => (s.setX m).setZN m

/-- LDY: Y and Z, N from the operand (R113). -/
def ldyHandler : Handler := readClass fun m s => (s.setY m).setZN m

/-- STA: A to the effective address, no flag (R114). -/
def staHandler : Handler := noExtra fun o s => writeOp o s.a s

/-- STX: X to the effective address, no flag (R115). -/
def stxHandler : Handler := noExtra fun o s => writeOp o s.x s

/-- STY: Y to the effective address, no flag (R116). -/
def styHandler : Handler := noExtra fun o s => writeOp o s.y s

/-- A9, LDA IMM, 2 bytes, 2 cycles (R111). -/
def execLdaImm (b : Byte) (s : State) : Result := run 2 (.imm b) ldaHandler s

/-- A5, LDA ZP, 2 bytes, 3 cycles (R111). -/
def execLdaZp (b : Byte) (s : State) : Result := run 3 (.zp b) ldaHandler s

/-- B5, LDA ZPX, 2 bytes, 4 cycles (R111). -/
def execLdaZpx (b : Byte) (s : State) : Result := run 4 (.zpx b) ldaHandler s

/-- AD, LDA ABS, 3 bytes, 4 cycles (R111). -/
def execLdaAbs (w : Word) (s : State) : Result := run 4 (.abs w) ldaHandler s

/-- BD, LDA ABX, 3 bytes, 4 cycles and 1 on a page cross (R111). -/
def execLdaAbx (w : Word) (s : State) : Result := run 4 (.abx w) ldaHandler s

/-- B9, LDA ABY, 3 bytes, 4 cycles and 1 on a page cross (R111). -/
def execLdaAby (w : Word) (s : State) : Result := run 4 (.aby w) ldaHandler s

/-- A1, LDA IZX, 2 bytes, 6 cycles (R111). -/
def execLdaIzx (b : Byte) (s : State) : Result := run 6 (.izx b) ldaHandler s

/-- B1, LDA IZY, 2 bytes, 5 cycles and 1 on a page cross (R111). -/
def execLdaIzy (b : Byte) (s : State) : Result := run 5 (.izy b) ldaHandler s

/-- A2, LDX IMM, 2 bytes, 2 cycles (R112). -/
def execLdxImm (b : Byte) (s : State) : Result := run 2 (.imm b) ldxHandler s

/-- A6, LDX ZP, 2 bytes, 3 cycles (R112). -/
def execLdxZp (b : Byte) (s : State) : Result := run 3 (.zp b) ldxHandler s

/-- B6, LDX ZPY, 2 bytes, 4 cycles (R112). -/
def execLdxZpy (b : Byte) (s : State) : Result := run 4 (.zpy b) ldxHandler s

/-- AE, LDX ABS, 3 bytes, 4 cycles (R112). -/
def execLdxAbs (w : Word) (s : State) : Result := run 4 (.abs w) ldxHandler s

/-- BE, LDX ABY, 3 bytes, 4 cycles and 1 on a page cross (R112). -/
def execLdxAby (w : Word) (s : State) : Result := run 4 (.aby w) ldxHandler s

/-- A0, LDY IMM, 2 bytes, 2 cycles (R113). -/
def execLdyImm (b : Byte) (s : State) : Result := run 2 (.imm b) ldyHandler s

/-- A4, LDY ZP, 2 bytes, 3 cycles (R113). -/
def execLdyZp (b : Byte) (s : State) : Result := run 3 (.zp b) ldyHandler s

/-- B4, LDY ZPX, 2 bytes, 4 cycles (R113). -/
def execLdyZpx (b : Byte) (s : State) : Result := run 4 (.zpx b) ldyHandler s

/-- AC, LDY ABS, 3 bytes, 4 cycles (R113). -/
def execLdyAbs (w : Word) (s : State) : Result := run 4 (.abs w) ldyHandler s

/-- BC, LDY ABX, 3 bytes, 4 cycles and 1 on a page cross (R113). -/
def execLdyAbx (w : Word) (s : State) : Result := run 4 (.abx w) ldyHandler s

/-- 85, STA ZP, 2 bytes, 3 cycles (R114). -/
def execStaZp (b : Byte) (s : State) : Result := run 3 (.zp b) staHandler s

/-- 95, STA ZPX, 2 bytes, 4 cycles (R114). -/
def execStaZpx (b : Byte) (s : State) : Result := run 4 (.zpx b) staHandler s

/-- 8D, STA ABS, 3 bytes, 4 cycles (R114). -/
def execStaAbs (w : Word) (s : State) : Result := run 4 (.abs w) staHandler s

/-- 9D, STA ABX, 3 bytes, 5 cycles (R114). -/
def execStaAbx (w : Word) (s : State) : Result := run 5 (.abx w) staHandler s

/-- 99, STA ABY, 3 bytes, 5 cycles (R114). -/
def execStaAby (w : Word) (s : State) : Result := run 5 (.aby w) staHandler s

/-- 81, STA IZX, 2 bytes, 6 cycles (R114). -/
def execStaIzx (b : Byte) (s : State) : Result := run 6 (.izx b) staHandler s

/-- 91, STA IZY, 2 bytes, 6 cycles (R114). -/
def execStaIzy (b : Byte) (s : State) : Result := run 6 (.izy b) staHandler s

/-- 86, STX ZP, 2 bytes, 3 cycles (R115). -/
def execStxZp (b : Byte) (s : State) : Result := run 3 (.zp b) stxHandler s

/-- 96, STX ZPY, 2 bytes, 4 cycles (R115). -/
def execStxZpy (b : Byte) (s : State) : Result := run 4 (.zpy b) stxHandler s

/-- 8E, STX ABS, 3 bytes, 4 cycles (R115). -/
def execStxAbs (w : Word) (s : State) : Result := run 4 (.abs w) stxHandler s

/-- 84, STY ZP, 2 bytes, 3 cycles (R116). -/
def execStyZp (b : Byte) (s : State) : Result := run 3 (.zp b) styHandler s

/-- 94, STY ZPX, 2 bytes, 4 cycles (R116). -/
def execStyZpx (b : Byte) (s : State) : Result := run 4 (.zpx b) styHandler s

/-- 8C, STY ABS, 3 bytes, 4 cycles (R116). -/
def execStyAbs (w : Word) (s : State) : Result := run 4 (.abs w) styHandler s

end Sys2Proof.Machine
end

