-- ==== Sys2Proof/Machine/Logic.lean ====
section
/-! DEFINITION. Logic instructions (43_logic.md R140 to R143). Each `exec…` is one row of the opcode
table: its base cycles, its mode and its handler. -/

namespace Sys2Proof.Machine

/-- A and Z, N from a result. -/
def State.accumulate (s : State) (v : Byte) : State := (s.setA v).setZN v

/-- AND (R140). -/
def andHandler : Handler := readClass fun m s => s.accumulate (s.a &&& m)

/-- ORA (R141). -/
def oraHandler : Handler := readClass fun m s => s.accumulate (s.a ||| m)

/-- EOR (R142). -/
def eorHandler : Handler := readClass fun m s => s.accumulate (s.a ^^^ m)

/-- BIT writes Z, N, V and no register (R143). -/
def bitHandler : Handler := readClass fun m s => s.setFlags (s.flags.bitTest s.a m)

/-- 29, AND IMM, 2 bytes, 2 cycles (R140). -/
def execAndImm (b : Byte) (s : State) : Result := run 2 (.imm b) andHandler s

/-- 25, AND ZP, 2 bytes, 3 cycles (R140). -/
def execAndZp (b : Byte) (s : State) : Result := run 3 (.zp b) andHandler s

/-- 35, AND ZPX, 2 bytes, 4 cycles (R140). -/
def execAndZpx (b : Byte) (s : State) : Result := run 4 (.zpx b) andHandler s

/-- 2D, AND ABS, 3 bytes, 4 cycles (R140). -/
def execAndAbs (w : Word) (s : State) : Result := run 4 (.abs w) andHandler s

/-- 3D, AND ABX, 3 bytes, 4 cycles and 1 on a page cross (R140). -/
def execAndAbx (w : Word) (s : State) : Result := run 4 (.abx w) andHandler s

/-- 39, AND ABY, 3 bytes, 4 cycles and 1 on a page cross (R140). -/
def execAndAby (w : Word) (s : State) : Result := run 4 (.aby w) andHandler s

/-- 21, AND IZX, 2 bytes, 6 cycles (R140). -/
def execAndIzx (b : Byte) (s : State) : Result := run 6 (.izx b) andHandler s

/-- 31, AND IZY, 2 bytes, 5 cycles and 1 on a page cross (R140). -/
def execAndIzy (b : Byte) (s : State) : Result := run 5 (.izy b) andHandler s

/-- 09, ORA IMM, 2 bytes, 2 cycles (R141). -/
def execOraImm (b : Byte) (s : State) : Result := run 2 (.imm b) oraHandler s

/-- 05, ORA ZP, 2 bytes, 3 cycles (R141). -/
def execOraZp (b : Byte) (s : State) : Result := run 3 (.zp b) oraHandler s

/-- 15, ORA ZPX, 2 bytes, 4 cycles (R141). -/
def execOraZpx (b : Byte) (s : State) : Result := run 4 (.zpx b) oraHandler s

/-- 0D, ORA ABS, 3 bytes, 4 cycles (R141). -/
def execOraAbs (w : Word) (s : State) : Result := run 4 (.abs w) oraHandler s

/-- 1D, ORA ABX, 3 bytes, 4 cycles and 1 on a page cross (R141). -/
def execOraAbx (w : Word) (s : State) : Result := run 4 (.abx w) oraHandler s

/-- 19, ORA ABY, 3 bytes, 4 cycles and 1 on a page cross (R141). -/
def execOraAby (w : Word) (s : State) : Result := run 4 (.aby w) oraHandler s

/-- 01, ORA IZX, 2 bytes, 6 cycles (R141). -/
def execOraIzx (b : Byte) (s : State) : Result := run 6 (.izx b) oraHandler s

/-- 11, ORA IZY, 2 bytes, 5 cycles and 1 on a page cross (R141). -/
def execOraIzy (b : Byte) (s : State) : Result := run 5 (.izy b) oraHandler s

/-- 49, EOR IMM, 2 bytes, 2 cycles (R142). -/
def execEorImm (b : Byte) (s : State) : Result := run 2 (.imm b) eorHandler s

/-- 45, EOR ZP, 2 bytes, 3 cycles (R142). -/
def execEorZp (b : Byte) (s : State) : Result := run 3 (.zp b) eorHandler s

/-- 55, EOR ZPX, 2 bytes, 4 cycles (R142). -/
def execEorZpx (b : Byte) (s : State) : Result := run 4 (.zpx b) eorHandler s

/-- 4D, EOR ABS, 3 bytes, 4 cycles (R142). -/
def execEorAbs (w : Word) (s : State) : Result := run 4 (.abs w) eorHandler s

/-- 5D, EOR ABX, 3 bytes, 4 cycles and 1 on a page cross (R142). -/
def execEorAbx (w : Word) (s : State) : Result := run 4 (.abx w) eorHandler s

/-- 59, EOR ABY, 3 bytes, 4 cycles and 1 on a page cross (R142). -/
def execEorAby (w : Word) (s : State) : Result := run 4 (.aby w) eorHandler s

/-- 41, EOR IZX, 2 bytes, 6 cycles (R142). -/
def execEorIzx (b : Byte) (s : State) : Result := run 6 (.izx b) eorHandler s

/-- 51, EOR IZY, 2 bytes, 5 cycles and 1 on a page cross (R142). -/
def execEorIzy (b : Byte) (s : State) : Result := run 5 (.izy b) eorHandler s

/-- 24, BIT ZP, 2 bytes, 3 cycles (R143). -/
def execBitZp (b : Byte) (s : State) : Result := run 3 (.zp b) bitHandler s

/-- 2C, BIT ABS, 3 bytes, 4 cycles (R143). -/
def execBitAbs (w : Word) (s : State) : Result := run 4 (.abs w) bitHandler s

end Sys2Proof.Machine
end

