-- ==== Sys2Proof/Machine/Shift.lean ====
section
/-! DEFINITION. Shifts and rotates (46_shift.md R180 to R184). Each `exec…` is one row of the opcode
table: its base cycles, its mode and its handler. -/

namespace Sys2Proof.Machine

/-- A shift of the operand by one bit position: the operand is read, the result written back to it, C is the bit
shifted out, Z and N follow the result (R180). -/
def shift (f : Byte → Bool → Shifted) : Handler := noExtra fun o s =>
  let r := f (readOp o s) s.flags.c
  (writeOp o r.value s).setFlags { s.flags.setZN r.value with c := r.c }

/-- ASL (R181). -/
def aslHandler : Handler := shift shiftLeft

/-- LSR (R182). -/
def lsrHandler : Handler := shift shiftRight

/-- ROL (R183). -/
def rolHandler : Handler := shift rotateLeft

/-- ROR (R184). -/
def rorHandler : Handler := shift rotateRight

/-- 0A, ASL ACC, 1 byte, 2 cycles (R181). -/
def execAslAcc (s : State) : Result := run 2 .acc aslHandler s

/-- 06, ASL ZP, 2 bytes, 5 cycles (R181). -/
def execAslZp (b : Byte) (s : State) : Result := run 5 (.zp b) aslHandler s

/-- 16, ASL ZPX, 2 bytes, 6 cycles (R181). -/
def execAslZpx (b : Byte) (s : State) : Result := run 6 (.zpx b) aslHandler s

/-- 0E, ASL ABS, 3 bytes, 6 cycles (R181). -/
def execAslAbs (w : Word) (s : State) : Result := run 6 (.abs w) aslHandler s

/-- 1E, ASL ABX, 3 bytes, 7 cycles (R181). -/
def execAslAbx (w : Word) (s : State) : Result := run 7 (.abx w) aslHandler s

/-- 4A, LSR ACC, 1 byte, 2 cycles (R182). -/
def execLsrAcc (s : State) : Result := run 2 .acc lsrHandler s

/-- 46, LSR ZP, 2 bytes, 5 cycles (R182). -/
def execLsrZp (b : Byte) (s : State) : Result := run 5 (.zp b) lsrHandler s

/-- 56, LSR ZPX, 2 bytes, 6 cycles (R182). -/
def execLsrZpx (b : Byte) (s : State) : Result := run 6 (.zpx b) lsrHandler s

/-- 4E, LSR ABS, 3 bytes, 6 cycles (R182). -/
def execLsrAbs (w : Word) (s : State) : Result := run 6 (.abs w) lsrHandler s

/-- 5E, LSR ABX, 3 bytes, 7 cycles (R182). -/
def execLsrAbx (w : Word) (s : State) : Result := run 7 (.abx w) lsrHandler s

/-- 2A, ROL ACC, 1 byte, 2 cycles (R183). -/
def execRolAcc (s : State) : Result := run 2 .acc rolHandler s

/-- 26, ROL ZP, 2 bytes, 5 cycles (R183). -/
def execRolZp (b : Byte) (s : State) : Result := run 5 (.zp b) rolHandler s

/-- 36, ROL ZPX, 2 bytes, 6 cycles (R183). -/
def execRolZpx (b : Byte) (s : State) : Result := run 6 (.zpx b) rolHandler s

/-- 2E, ROL ABS, 3 bytes, 6 cycles (R183). -/
def execRolAbs (w : Word) (s : State) : Result := run 6 (.abs w) rolHandler s

/-- 3E, ROL ABX, 3 bytes, 7 cycles (R183). -/
def execRolAbx (w : Word) (s : State) : Result := run 7 (.abx w) rolHandler s

/-- 6A, ROR ACC, 1 byte, 2 cycles (R184). -/
def execRorAcc (s : State) : Result := run 2 .acc rorHandler s

/-- 66, ROR ZP, 2 bytes, 5 cycles (R184). -/
def execRorZp (b : Byte) (s : State) : Result := run 5 (.zp b) rorHandler s

/-- 76, ROR ZPX, 2 bytes, 6 cycles (R184). -/
def execRorZpx (b : Byte) (s : State) : Result := run 6 (.zpx b) rorHandler s

/-- 6E, ROR ABS, 3 bytes, 6 cycles (R184). -/
def execRorAbs (w : Word) (s : State) : Result := run 6 (.abs w) rorHandler s

/-- 7E, ROR ABX, 3 bytes, 7 cycles (R184). -/
def execRorAbx (w : Word) (s : State) : Result := run 7 (.abx w) rorHandler s

end Sys2Proof.Machine
end

