-- ==== Sys2Proof/Machine/Stack.lean ====
section
/-! DEFINITION. Stack instructions (42_stack.md R130 to R134). Each `exec…` is one row of the opcode
table: its base cycles, its mode and its handler. -/

namespace Sys2Proof.Machine

/-- PHA (R130). -/
def phaHandler : Handler := noExtra fun _ s => s.push8 s.a

/-- PHP: the image has its break bit set (R131). -/
def phpHandler : Handler := noExtra fun _ s => s.push8 (s.flags.packP true)

/-- PLA: Z and N from the byte pulled (R132). -/
def plaHandler : Handler := noExtra fun _ s => (s.pull8.setA s.pulled8).setZN s.pulled8

/-- PLP (R133). -/
def plpHandler : Handler := noExtra fun _ s => s.pull8.setFlags (s.flags.unpackP s.pulled8)

/-- 48, PHA IMP, 1 byte, 3 cycles (R130). -/
def execPha (s : State) : Result := run 3 .imp phaHandler s

/-- 08, PHP IMP, 1 byte, 3 cycles (R131). -/
def execPhp (s : State) : Result := run 3 .imp phpHandler s

/-- 68, PLA IMP, 1 byte, 4 cycles (R132). -/
def execPla (s : State) : Result := run 4 .imp plaHandler s

/-- 28, PLP IMP, 1 byte, 4 cycles (R133). -/
def execPlp (s : State) : Result := run 4 .imp plpHandler s

end Sys2Proof.Machine
end

