-- ==== Sys2Proof/Machine/Transfer.lean ====
section
/-! DEFINITION. Register transfers (41_transfer.md R120 to R126). Each `exec…` is one row of the opcode
table: its base cycles, its mode and its handler. -/

namespace Sys2Proof.Machine

/-- TAX (R120). -/
def taxHandler : Handler := noExtra fun _ s => (s.setX s.a).setZN s.a

/-- TAY (R121). -/
def tayHandler : Handler := noExtra fun _ s => (s.setY s.a).setZN s.a

/-- TXA (R122). -/
def txaHandler : Handler := noExtra fun _ s => (s.setA s.x).setZN s.x

/-- TYA (R123). -/
def tyaHandler : Handler := noExtra fun _ s => (s.setA s.y).setZN s.y

/-- TSX: X gets the 8-bit offset (R124). -/
def tsxHandler : Handler := noExtra fun _ s => (s.setX s.sp).setZN s.sp

/-- TXS, the one transfer that writes no flag (R125). -/
def txsHandler : Handler := noExtra fun _ s => s.setSp s.x

/-- AA, TAX IMP, 1 byte, 2 cycles (R120). -/
def execTax (s : State) : Result := run 2 .imp taxHandler s

/-- A8, TAY IMP, 1 byte, 2 cycles (R121). -/
def execTay (s : State) : Result := run 2 .imp tayHandler s

/-- 8A, TXA IMP, 1 byte, 2 cycles (R122). -/
def execTxa (s : State) : Result := run 2 .imp txaHandler s

/-- 98, TYA IMP, 1 byte, 2 cycles (R123). -/
def execTya (s : State) : Result := run 2 .imp tyaHandler s

/-- BA, TSX IMP, 1 byte, 2 cycles (R124). -/
def execTsx (s : State) : Result := run 2 .imp tsxHandler s

/-- 9A, TXS IMP, 1 byte, 2 cycles (R125). -/
def execTxs (s : State) : Result := run 2 .imp txsHandler s

end Sys2Proof.Machine
end

