-- ==== Sys2Proof/Machine/Fetch.lean ====
section
/-! DEFINITION. Fetching the instruction at an address, byte by byte in ascending order (20_memory.md R55), and placing
bytes in memory. -/

namespace Sys2Proof.Machine

/-- The instruction at address `pc`: the opcode byte is fetched, then as many operand bytes as its format has
(30_encoding.md R80 to R83, R87; 60_exceptions.md R240). -/
def fetchInstr (m : Memory) (pc : Word) : Instr :=
  match opcodeForm (m.read pc) with
  | .f1 i => i
  | .f2 k => k (m.read (pc + 1))
  | .f3 k => k (m.readWord (pc + 1))

/-- Writes bytes at ascending addresses from `a` on, modulo 65536. -/
def Memory.place (m : Memory) (a : Word) : List Byte → Memory
  | [] => m
  | v :: rest => Memory.place (m.write a v) (a + 1) rest

/-- A state at an instruction boundary at which no interrupt is taken: not jammed, no debt, no NMI latched, the IRQ line
not asserted (60_exceptions.md R240, R243). -/
def State.atQuietBoundary (s : State) : State :=
  { s with cycleDebt := 0, jammed := false, nmiPending := false, irqLine := false }

end Sys2Proof.Machine
end

