-- ==== Sys2Proof/Machine/Step.lean ====
section
/-! DEFINITION. One clock tick (60_exceptions.md R240 to R244). -/

namespace Sys2Proof.Machine

/-- The output `boundary` of the tick that starts in this state: true exactly when the tick begins with no debt and not
jammed (60_exceptions.md R244). -/
def State.boundary (s : State) : Bool := decide (s.cycleDebt = 0) && !s.jammed

/-- `Step()`, one tick (60_exceptions.md R240): nothing while jammed (R241), a counting tick while cycles are owed (R242),
else the NMI, the IRQ if I is clear, or the instruction at PC (R243, R253). -/
def step (s : State) : Host.Outcome State Fault Refusal :=
  if s.jammed then .next s
  else if 0 < s.cycleDebt then .next s.countDown
  else if s.nmiPending then .next s.takeNmi
  else if s.irqLine && !s.flags.i then .next s.takeIrq
  else exec (fetchInstr s.mem s.pc) s

/-- The state with the bytes of a table word at PC, at a boundary where no interrupt is taken, so that the next step runs
that instruction (log 7). -/
def State.withFetchWord (s : State) (nbits w : Nat) : State :=
  { s with mem := s.mem.place s.pc (wordBytes nbits w) }.atQuietBoundary

end Sys2Proof.Machine
end

