-- ==== Sys2Proof/Machine/Timing.lean ====
section
/-! DEFINITION. The cycle tables of the spec, apart from the counts the rows carry: the classes of 30_encoding.md R96, the
base counts by group and mode of R97, the extra cycles of R94. `exec` does not use them: a statement compares them with
what it does. -/

namespace Sys2Proof.Machine

/-- The classes of R96. -/
inductive Class where
  | read | write | rmw | branch | other
  deriving DecidableEq, Repr

/-- The class of an instruction (R96); a shift of the accumulator is `other` (46_shift.md). -/
def Instr.cls (i : Instr) : Class :=
  match i.mnemonic with
  | .lda | .ldx | .ldy | .adc | .sbc | .and | .ora | .eor | .cmp | .cpx | .cpy | .bit => .read
  | .sta | .stx | .sty => .write
  | .asl | .lsr | .rol | .ror => if i.operand.mode = .acc then .other else .rmw
  | .inc | .dec => .rmw
  | .bcc | .bcs | .beq | .bmi | .bne | .bpl | .bvc | .bvs => .branch
  | .tax | .tay | .txa | .tya | .tsx | .txs | .pha | .php | .pla | .plp | .inx | .iny | .dex | .dey
  | .jmp | .jsr | .rts | .clc | .sec | .cli | .sei | .cld | .sed | .clv | .nop | .brk | .rti | .illegal => .other

/-- The base count of a mnemonic in a mode it has, as the table of R97 gives it by group; the last groups of the table have
one mode only. -/
def baseCycles (mn : Mnemonic) (mode : Mode) : Nat :=
  match mn with
  | .lda | .adc | .sbc | .and | .ora | .eor | .cmp | .ldx | .ldy | .cpx | .cpy | .bit =>
    match mode with
    | .imm => 2
    | .zp => 3
    | .zpx | .zpy | .abs | .abx | .aby => 4
    | .izx => 6
    | .izy => 5
    | .imp | .acc | .rel | .ind => 0
  | .sta | .stx | .sty =>
    match mode with
    | .zp => 3
    | .zpx | .zpy | .abs => 4
    | .abx | .aby => 5
    | .izx | .izy => 6
    | .imp | .acc | .imm | .rel | .ind => 0
  | .asl | .lsr | .rol | .ror | .inc | .dec =>
    match mode with
    | .acc => 2
    | .zp => 5
    | .zpx | .abs => 6
    | .abx => 7
    | .imp | .imm | .zpy | .aby | .rel | .ind | .izx | .izy => 0
  | .bcc | .bcs | .beq | .bmi | .bne | .bpl | .bvc | .bvs => 2
  | .jmp =>
    match mode with
    | .abs => 3
    | .ind => 5
    | .imp | .acc | .imm | .zp | .zpx | .zpy | .abx | .aby | .rel | .izx | .izy => 0
  | .jsr | .rts | .rti => 6
  | .brk => 7
  | .pha | .php => 3
  | .pla | .plp => 4
  | .clc | .sec | .cli | .sei | .clv | .cld | .sed | .nop
  | .tax | .tay | .txa | .tya | .tsx | .txs | .inx | .iny | .dex | .dey => 2
  | .illegal => 0

/-- The condition a branch tests (48_branch.md R201 to R208); false for every other mnemonic. -/
def branchCondition (mn : Mnemonic) (f : Flags) : Bool :=
  match mn with
  | .bcc => !f.c
  | .bcs => f.c
  | .beq => f.z
  | .bne => !f.z
  | .bmi => f.n
  | .bpl => !f.n
  | .bvc => !f.v
  | .bvs => f.v
  | _ => false

/-- What `Resolve` returns for the instruction run in state `s`, whose PC is at the opcode (30_encoding.md R88). -/
def Instr.resolved (i : Instr) (s : State) : Resolved := resolve i.operand (s.pastInstr i.operand)

/-- The extra cycles of an instruction run in state `s` (R94). -/
def Instr.extraCycles (i : Instr) (s : State) : Nat :=
  match Instr.cls i with
  | .read =>
    match i.operand.mode with
    | .abx | .aby | .izy => if (Instr.resolved i s).crossed then 1 else 0
    | _ => 0
  | .branch =>
    if branchCondition i.mnemonic s.flags then (if (Instr.resolved i s).crossed then 2 else 1) else 0
  | .write | .rmw | .other => 0

/-- The cost of an instruction: base plus extra (R94, R97). -/
def Instr.cycles (i : Instr) (s : State) : Nat :=
  baseCycles i.mnemonic i.operand.mode + Instr.extraCycles i s

end Sys2Proof.Machine
end

