-- ==== Sys2Proof/Machine/Access.lean ====
section
/-! DEFINITION. The byte accesses a tick or `Reset()` makes on the Bus and their order (20_memory.md R66,
70_reset_and_hazards.md R280). A state records none of them (10_state.md R20), so the list of a tick is a function of the
state it starts in (log 10). -/

namespace Sys2Proof.Machine

/-- One byte access: a fetch from an address or a store to it (20_memory.md R51). -/
inductive Access where
  | fetch (a : Word)
  | store (a : Word)
  deriving DecidableEq, Repr

/-- The two bytes of a pointer, low byte first (R66 point 3; 30_encoding.md R88). -/
def pointerReads (o : Operand) (s : State) : List Access :=
  match o with
  | .ind w => [.fetch w, .fetch (indPointerHigh Config.jmpIndPageWrap w)]
  | .izx b => [.fetch (zext16 (b + s.x)), .fetch (zpPointerHigh (b + s.x))]
  | .izy b => [.fetch (zext16 b), .fetch (zpPointerHigh b)]
  | .imp | .acc | .imm _ | .zp _ | .zpx _ | .zpy _ | .abs _ | .abx _ | .aby _ | .rel _ => []

/-- The address of the memory operand, where there is one beside the operand bytes: none in IMP, ACC and IMM mode
(30_encoding.md R93). -/
def memoryOperand (o : Operand) (s : State) : List Word :=
  match o with
  | .imm _ => []
  | _ => (resolve o s).ea.toList

/-- The three stores of an interrupt entry or BRK, then the vector's low and high byte (60_exceptions.md R252). -/
def entryAccesses (sp : Byte) (vector : Word) : List Access :=
  [.store (stackAddr sp), .store (stackAddr (sp - 1)), .store (stackAddr (sp - 1 - 1)),
    .fetch vector, .fetch (vector + 1)]

/-- The accesses of `Reset()`: the two bytes of the reset vector, low byte first, and no store
(70_reset_and_hazards.md R280). -/
def resetAccesses : List Access := [.fetch resetVector, .fetch (resetVector + 1)]

/-- What an instruction accesses after its bytes and its pointer were fetched: its operand, or the stack (R66 points 4 and
5); `s` is the state past the instruction's bytes. -/
def handlerAccesses (i : Instr) (s : State) : List Access :=
  match i.mnemonic with
  | .lda | .ldx | .ldy | .adc | .sbc | .and | .ora | .eor | .cmp | .cpx | .cpy | .bit =>
    (memoryOperand i.operand s).map .fetch
  | .sta | .stx | .sty => (memoryOperand i.operand s).map .store
  | .asl | .lsr | .rol | .ror | .inc | .dec =>
    (memoryOperand i.operand s).map .fetch ++ (memoryOperand i.operand s).map .store
  | .pha | .php => [.store (stackAddr s.sp)]
  | .pla | .plp => [.fetch (stackAddr (s.sp + 1))]
  | .jsr => [.store (stackAddr s.sp), .store (stackAddr (s.sp - 1))]
  | .rts => [.fetch (stackAddr (s.sp + 1)), .fetch (stackAddr (s.sp + 1 + 1))]
  | .brk => entryAccesses s.sp irqVector
  | .rti =>
    [.fetch (stackAddr (s.sp + 1)), .fetch (stackAddr (s.sp + 1 + 1)), .fetch (stackAddr (s.sp + 1 + 1 + 1))]
  | .tax | .tay | .txa | .tya | .tsx | .txs | .inx | .iny | .dex | .dey | .jmp | .clc | .sec | .cli | .sei | .cld
  | .sed | .clv | .nop | .bcc | .bcs | .beq | .bne | .bmi | .bpl | .bvc | .bvs | .illegal => []

/-- The accesses of one instruction run in state `s`: the opcode byte, the operand bytes at ascending addresses, the
pointer, then the operand or the stack (R66). -/
def instrAccesses (i : Instr) (s : State) : List Access :=
  (List.range i.length).map (fun k => .fetch (s.pc + BitVec.ofNat 16 k)) ++
    pointerReads i.operand (s.pastInstr i.operand) ++ handlerAccesses i (s.pastInstr i.operand)

/-- The accesses of one tick: none while jammed or counting (60_exceptions.md R241, R242), an entry's when an interrupt is
taken, else the instruction's. -/
def tickAccesses (s : State) : List Access :=
  if s.jammed then []
  else if 0 < s.cycleDebt then []
  else if s.nmiPending then entryAccesses s.sp nmiVector
  else if s.irqLine && !s.flags.i then entryAccesses s.sp irqVector
  else instrAccesses (fetchInstr s.mem s.pc) s

end Sys2Proof.Machine
end

