-- ==== Sys2Proof/Machine/Assembler.lean ====
section
/-! DEFINITION. The assembler notation the spec writes its examples in (30_encoding.md R101). It has no machine meaning
(R102): no definition of the machine uses it. -/

namespace Sys2Proof

/-- An upper-case hexadecimal digit. -/
def hexDigit (n : Nat) : Char :=
  match n with
  | 0 => '0'
  | 1 => '1'
  | 2 => '2'
  | 3 => '3'
  | 4 => '4'
  | 5 => '5'
  | 6 => '6'
  | 7 => '7'
  | 8 => '8'
  | 9 => '9'
  | 10 => 'A'
  | 11 => 'B'
  | 12 => 'C'
  | 13 => 'D'
  | 14 => 'E'
  | _ => 'F'

/-- A byte as two hexadecimal digits. -/
def hexByte (b : Byte) : List Char := [hexDigit (b.toNat / 16), hexDigit (b.toNat % 16)]

/-- A word as four hexadecimal digits. -/
def hexWord (w : Word) : List Char := hexByte (hi8 w) ++ hexByte (lo8 w)

/-- The three upper-case letters of a mnemonic; an illegal opcode has no notation. -/
def Mnemonic.letters : Mnemonic → List Char
  | .lda => ['L', 'D', 'A']
  | .ldx => ['L', 'D', 'X']
  | .ldy => ['L', 'D', 'Y']
  | .sta => ['S', 'T', 'A']
  | .stx => ['S', 'T', 'X']
  | .sty => ['S', 'T', 'Y']
  | .tax => ['T', 'A', 'X']
  | .tay => ['T', 'A', 'Y']
  | .txa => ['T', 'X', 'A']
  | .tya => ['T', 'Y', 'A']
  | .tsx => ['T', 'S', 'X']
  | .txs => ['T', 'X', 'S']
  | .pha => ['P', 'H', 'A']
  | .php => ['P', 'H', 'P']
  | .pla => ['P', 'L', 'A']
  | .plp => ['P', 'L', 'P']
  | .and => ['A', 'N', 'D']
  | .ora => ['O', 'R', 'A']
  | .eor => ['E', 'O', 'R']
  | .bit => ['B', 'I', 'T']
  | .adc => ['A', 'D', 'C']
  | .sbc => ['S', 'B', 'C']
  | .cmp => ['C', 'M', 'P']
  | .cpx => ['C', 'P', 'X']
  | .cpy => ['C', 'P', 'Y']
  | .inc => ['I', 'N', 'C']
  | .dec => ['D', 'E', 'C']
  | .inx => ['I', 'N', 'X']
  | .iny => ['I', 'N', 'Y']
  | .dex => ['D', 'E', 'X']
  | .dey => ['D', 'E', 'Y']
  | .asl => ['A', 'S', 'L']
  | .lsr => ['L', 'S', 'R']
  | .rol => ['R', 'O', 'L']
  | .ror => ['R', 'O', 'R']
  | .jmp => ['J', 'M', 'P']
  | .jsr => ['J', 'S', 'R']
  | .rts => ['R', 'T', 'S']
  | .bcc => ['B', 'C', 'C']
  | .bcs => ['B', 'C', 'S']
  | .beq => ['B', 'E', 'Q']
  | .bne => ['B', 'N', 'E']
  | .bmi => ['B', 'M', 'I']
  | .bpl => ['B', 'P', 'L']
  | .bvc => ['B', 'V', 'C']
  | .bvs => ['B', 'V', 'S']
  | .clc => ['C', 'L', 'C']
  | .sec => ['S', 'E', 'C']
  | .cli => ['C', 'L', 'I']
  | .sei => ['S', 'E', 'I']
  | .cld => ['C', 'L', 'D']
  | .sed => ['S', 'E', 'D']
  | .clv => ['C', 'L', 'V']
  | .nop => ['N', 'O', 'P']
  | .brk => ['B', 'R', 'K']
  | .rti => ['R', 'T', 'I']
  | .illegal => ['?', '?', '?']

/-- The target of the branch at `opcodeAddr`: the address after the branch plus the signed offset (R101). -/
def branchTarget (opcodeAddr : Word) (b : Byte) : Word := opcodeAddr + 2 + sext16 b

/-- The operand byte the assembler writes for a branch at `opcodeAddr` to `target`, where the target lies within -128..+127 of
the address after the branch (R101). -/
def branchOperand (opcodeAddr target : Word) : Option Byte :=
  let offset := target - (opcodeAddr + 2)
  if sext16 (lo8 offset) = offset then some (lo8 offset) else none

/-- The operand as the table of R101 writes it; a branch at `opcodeAddr` shows its target as an address. -/
def Operand.written (opcodeAddr : Word) : Operand → List Char
  | .imp => []
  | .acc => [' ', 'A']
  | .imm b => [' ', '#', '$'] ++ hexByte b
  | .zp b => [' ', '$'] ++ hexByte b
  | .zpx b => [' ', '$'] ++ hexByte b ++ [',', 'X']
  | .zpy b => [' ', '$'] ++ hexByte b ++ [',', 'Y']
  | .abs w => [' ', '$'] ++ hexWord w
  | .abx w => [' ', '$'] ++ hexWord w ++ [',', 'X']
  | .aby w => [' ', '$'] ++ hexWord w ++ [',', 'Y']
  | .rel b => [' ', '$'] ++ hexWord (branchTarget opcodeAddr b)
  | .ind w => [' ', '(', '$'] ++ hexWord w ++ [')']
  | .izx b => [' ', '(', '$'] ++ hexByte b ++ [',', 'X', ')']
  | .izy b => [' ', '(', '$'] ++ hexByte b ++ [')', ',', 'Y']

/-- An instruction at address `opcodeAddr` in the notation of R101. -/
def Instr.assembly (opcodeAddr : Word) (i : Instr) : List Char := i.mnemonic.letters ++ i.operand.written opcodeAddr

end Sys2Proof
end

