-- ==== Sys2Proof/Machine/Footprint.lean ====
section
/-! DEFINITION. The summaries of 10_state.md R44 and R45: which registers and which flags each instruction writes. `exec`
does not use them: a statement compares them with what it does. -/

namespace Sys2Proof.Machine

/-- No flag. -/
def Flags.none : Flags := Flags.cleared

/-- The flags an instruction writes (R45); a flag not set here keeps its value. -/
def flagsWritten : Mnemonic → Flags
  | .adc | .sbc => { Flags.none with n := true, v := true, z := true, c := true }
  | .and | .ora | .eor => { Flags.none with n := true, z := true }
  | .asl | .lsr | .rol | .ror => { Flags.none with n := true, z := true, c := true }
  | .bit => { Flags.none with n := true, v := true, z := true }
  | .cmp | .cpx | .cpy => { Flags.none with n := true, z := true, c := true }
  | .inc | .inx | .iny | .dec | .dex | .dey => { Flags.none with n := true, z := true }
  | .lda | .ldx | .ldy => { Flags.none with n := true, z := true }
  | .tax | .tay | .tsx | .txa | .tya => { Flags.none with n := true, z := true }
  | .txs => Flags.none
  | .pla => { Flags.none with n := true, z := true }
  | .plp | .rti => { n := true, v := true, b := false, d := true, i := true, z := true, c := true }
  | .clc | .sec => { Flags.none with c := true }
  | .cld | .sed => { Flags.none with d := true }
  | .cli | .sei => { Flags.none with i := true }
  | .clv => { Flags.none with v := true }
  | .brk => { Flags.none with i := true }
  | .sta | .stx | .sty | .pha | .php | .jmp | .jsr | .rts | .nop => Flags.none
  | .bcc | .bcs | .beq | .bne | .bmi | .bpl | .bvc | .bvs => Flags.none
  | .illegal => Flags.none

/-- A set of the registers A, X, Y, SP. -/
structure RegSet where
  a : Bool
  x : Bool
  y : Bool
  sp : Bool
  deriving DecidableEq, Repr

/-- No register. -/
def RegSet.none : RegSet := { a := false, x := false, y := false, sp := false }

/-- The registers an instruction writes (R44); the shifts write A in their accumulator form only. -/
def regsWritten (mn : Mnemonic) (mode : Mode) : RegSet :=
  match mn with
  | .adc | .sbc | .and | .ora | .eor | .lda | .txa | .tya => { RegSet.none with a := true }
  | .pla => { RegSet.none with a := true, sp := true }
  | .asl | .lsr | .rol | .ror => { RegSet.none with a := decide (mode = .acc) }
  | .inx | .dex | .ldx | .tax | .tsx => { RegSet.none with x := true }
  | .iny | .dey | .ldy | .tay => { RegSet.none with y := true }
  | .txs | .pha | .php | .plp | .jsr | .rts | .rti | .brk => { RegSet.none with sp := true }
  | .sta | .stx | .sty | .bit | .cmp | .cpx | .cpy | .inc | .dec | .jmp | .nop => RegSet.none
  | .bcc | .bcs | .beq | .bne | .bmi | .bpl | .bvc | .bvs => RegSet.none
  | .clc | .sec | .cli | .sei | .cld | .sed | .clv | .illegal => RegSet.none

/-- Whether an instruction loads PC instead of only moving past its own bytes (70_reset_and_hazards.md R301); an illegal
opcode does neither (49_flag_system.md R229). -/
def transfersControl : Mnemonic → Bool
  | .jmp | .jsr | .rts | .rti | .brk | .bcc | .bcs | .beq | .bne | .bmi | .bpl | .bvc | .bvs | .illegal => true
  | .lda | .ldx | .ldy | .sta | .stx | .sty | .tax | .tay | .txa | .tya | .tsx | .txs | .pha | .php | .pla | .plp
  | .and | .ora | .eor | .bit | .adc | .sbc | .cmp | .cpx | .cpy | .inc | .dec | .inx | .iny | .dex | .dey
  | .asl | .lsr | .rol | .ror | .clc | .sec | .cli | .sei | .cld | .sed | .clv | .nop => false

end Sys2Proof.Machine
end

