-- ==== Sys2Proof/Machine/HostOps.lean ====
section
/-! DEFINITION. What the host can do to the machine, and nothing else (60_exceptions.md R245). -/

namespace Sys2Proof.Machine

/-- The state after `Reset()` on memory `m`, with `SP_RESET` = `sp` (70_reset_and_hazards.md R280): the vector is read
from memory, nothing is pushed, memory is not touched. -/
def resetFrom (sp : Byte) (m : Memory) : State :=
  { a := 0, x := 0, y := 0
    sp := sp
    pc := m.readWord resetVector
    flags := Flags.cleared
    cycleDebt := 0
    jammed := false
    nmiPending := false
    irqLine := false
    mem := m }

/-- `Reset()`: takes effect at once, between any two ticks, whatever the debt, and also when jammed (R280, R281, R284). -/
def resetCore (sp : Byte) (s : State) : State := resetFrom sp s.mem

/-- `RaiseNMI()`: latches one edge (60_exceptions.md R255). -/
def raiseNmi (s : State) : State := { s with nmiPending := true }

/-- `SetIRQ(level)`: sets the level of the line (60_exceptions.md R255). -/
def setIrq (level : Bool) (s : State) : State := { s with irqLine := level }

/-- The host reads a byte of memory between two ticks (70_reset_and_hazards.md R291). -/
def hostRead (a : Word) (s : State) : Byte := s.load a

/-- The host writes a byte of memory between two ticks (70_reset_and_hazards.md R291). -/
def hostWrite (a : Word) (v : Byte) (s : State) : State := s.store a v

/-- What the host can observe of the core (10_state.md R48): not the interrupt latches. -/
structure Observation where
  a : Byte
  x : Byte
  y : Byte
  sp : Byte
  pc : Word
  flags : Flags
  cycleDebt : Nat
  jammed : Bool
  deriving DecidableEq, Repr

/-- The read-only accessors (10_state.md R48). -/
def observe (s : State) : Observation :=
  { a := s.a, x := s.x, y := s.y, sp := s.sp, pc := s.pc, flags := s.flags, cycleDebt := s.cycleDebt, jammed := s.jammed }

/-- `Step()` with its output `boundary` (60_exceptions.md R240, R244). -/
def tick (s : State) : Result × Bool := (step s, s.boundary)

/-- The host operations that change the state (60_exceptions.md R245). -/
inductive HostOp where
  | reset
  | step
  | raiseNmi
  | setIrq (level : Bool)
  | write (a : Word) (v : Byte)
  deriving DecidableEq, Repr

/-- One host operation, with `SP_RESET` = `sp`; the host calls them one at a time (60_exceptions.md R245). -/
def HostOp.apply (sp : Byte) (op : HostOp) (s : State) : Result :=
  match op with
  | .reset => .next (resetCore sp s)
  | .step => Sys2Proof.Machine.step s
  | .raiseNmi => .next (Sys2Proof.Machine.raiseNmi s)
  | .setIrq level => .next (Sys2Proof.Machine.setIrq level s)
  | .write a v => .next (hostWrite a v s)

end Sys2Proof.Machine
end

