-- ==== Sys2Proof/Safety.lean ====
section
/-! DEFINITION. The terms claims use: the invariant of 10_state.md R49, the states the host can reach, what a family file
lists of a mnemonic's rows, and the state after an instruction that does not transfer control. -/

namespace Sys2Proof.Machine

/-- The invariants of R49, and the canonical form of memory. That the stack pointer names an address of the stack page is
a fact of its width (R24). -/
abbrev State.Inv (s : State) : Prop :=
  s.cycleDebt ≤ 6 ∧ (s.jammed = true → s.cycleDebt = 0) ∧ s.flags.b = false ∧ s.mem.wf = true

/-- The states a host reaches: it loads any memory (`INIT_MEM`), calls `Reset()` with `SP_RESET` = `sp`, and then any of
its operations, one at a time (70_reset_and_hazards.md R284, R294; 60_exceptions.md R245). A run never ticks before
the first `Reset()` (10_state.md R47). -/
inductive Reachable (sp : Byte) : State → Prop where
  | start (m : Memory) (h : m.wf = true) : Reachable sp (resetFrom sp m)
  | next (s t : State) (op : HostOp) (hs : Reachable sp s) (h : op.apply sp s = .next t) : Reachable sp t

/-- A state whose next tick fetches an instruction: a boundary at which no interrupt is taken (60_exceptions.md R240,
R243). -/
abbrev State.FetchesNext (s : State) : Prop :=
  s.jammed = false ∧ s.cycleDebt = 0 ∧ s.nmiPending = false ∧ (s.irqLine = false ∨ s.flags.i = true)

/-- The rows of a mnemonic are exactly these, each as the family files list it: opcode byte, mode, length in bytes, base
cycles. -/
def RowsOf (mn : Mnemonic) (rows : List (Byte × Mode × Nat × Nat)) : Prop :=
  (∀ i : Instr, i.mnemonic = mn →
    (i.opcode, i.operand.mode, i.length, baseCycles i.mnemonic i.operand.mode) ∈ rows) ∧
  ∀ r ∈ rows, ∃ i : Instr, i.mnemonic = mn ∧
    (i.opcode, i.operand.mode, i.length, baseCycles i.mnemonic i.operand.mode) = r

/-- The operand byte `M` of an instruction run in state `s` (30_encoding.md R93). -/
def operandByte (i : Instr) (s : State) : Byte := readOp i.operand (s.pastInstr i.operand)

/-- The effective address of an instruction run in state `s` (30_encoding.md R88). -/
def address (i : Instr) (s : State) : Option Word := (Instr.resolved i s).ea

/-- State `t` with PC past the bytes of instruction `i`, which ran in state `s` (10_state.md R27), and with the cycles it
owes after its boundary tick (30_encoding.md R94). -/
def completed (i : Instr) (s t : State) : State :=
  { t with pc := s.pc + BitVec.ofNat 16 i.length, cycleDebt := Instr.cycles i s - 1 }

/-- The flags with Z and N following byte `v` (00_scope.md R15). -/
def zeroNegative (f : Flags) (v : Byte) : Flags := { f with z := decide (v = 0), n := v.getLsbD 7 }

/-- A byte whose two nibbles are 0..9 (44_arithmetic.md R152). -/
abbrev validBcd (b : Byte) : Prop := b.toNat / 16 ≤ 9 ∧ b.toNat % 16 ≤ 9

/-- `val(b)`, the value of a valid BCD byte (44_arithmetic.md R152). -/
def bcdValue (b : Byte) : Nat := 10 * (b.toNat / 16) + b.toNat % 16

/-- `bcd(k)`, the BCD byte of a number 0..99 (44_arithmetic.md R152). -/
def bcdByte (k : Nat) : Byte := BitVec.ofNat 8 (16 * (k / 10) + k % 10)

/-- The word two bytes of memory hold at two addresses, low byte first. -/
def wordAt (s : State) (lo hi : Nat) : Nat :=
  (s.load (BitVec.ofNat 16 lo)).toNat + 256 * (s.load (BitVec.ofNat 16 hi)).toNat

end Sys2Proof.Machine
end

