-- ==== Sys2Proof/Certificates/Slice0/Obligations.lean ====
section
/-! DEFINITION. The statements for the provers, from the numbered rules of the spec. `s.load a` is the model's read of one
byte; `operandByte`, `address`, `completed`, `RowsOf` and the other terms are in Sys2Proof/Safety.lean. -/

open Sys2Proof Sys2Proof.Machine

/-- O1. Encoding and decoding agree, over all 256 rows and all operands (30_encoding.md sections 1 and 4). -/
def Obligations.DecodeInvertsEncode : Prop :=
  ∀ (i : Instr) (rest : List Byte), i.wellFormed = true → decode (encode i ++ rest) = .ok (i, rest)

/-- O2. No two byte strings decode to one instruction, and nothing ill-formed is ever decoded (30_encoding.md R80 to R83, R100). -/
def Obligations.EncodeInvertsDecode : Prop :=
  ∀ (bytes rest : List Byte) (i : Instr), decode bytes = .ok (i, rest) →
    i.wellFormed = true ∧ bytes = encode i ++ rest

/-- O3. Decoding is total on the opcode byte and finds the length from it alone (30_encoding.md R95); every byte is an assigned instruction or one of the illegal bytes of R99, and every operand byte is legal. -/
def Obligations.OpcodeByteDecidesTheInstruction : Prop :=
  ∀ (op b1 b2 : Byte) (rest : List Byte), ∃ i : Instr,
    decode (op :: b1 :: b2 :: rest) = .ok (i, (b1 :: b2 :: rest).drop (i.length - 1)) ∧
    i.opcode = op ∧ i.length = 1 + i.operand.mode.operandBytes ∧
    (∀ (c1 c2 : Byte) (j : Instr) (r : List Byte), decode (op :: c1 :: c2 :: rest) = .ok (j, r) →
      j.length = i.length ∧ j.mnemonic = i.mnemonic ∧ j.operand.mode = i.operand.mode) ∧
    (i.mnemonic = .illegal ↔ isIllegalOpcode op = true) ∧
    (i.mnemonic = .illegal → i.length = 1 ∧ ∀ s : State, ∃ t, exec i s = .next t ∧ t.jammed = true ∧ t.pc = s.pc)

/-- O4. The examples of the table under 30_encoding.md R101, one for each of the thirteen modes. -/
def Obligations.ExampleEncodingsDecode : Prop :=
  decode [0xEA] = .ok (.nop, []) ∧ decode [0x0A] = .ok (.aslAcc, []) ∧
    decode [0xA9, 0x05] = .ok (.ldaImm 0x05, []) ∧ decode [0xA5, 0x10] = .ok (.ldaZp 0x10, []) ∧
    decode [0xB5, 0x10] = .ok (.ldaZpx 0x10, []) ∧ decode [0xB6, 0x10] = .ok (.ldxZpy 0x10, []) ∧
    decode [0x8D, 0x00, 0x02] = .ok (.staAbs 0x0200, []) ∧ decode [0xBD, 0x00, 0x02] = .ok (.ldaAbx 0x0200, []) ∧
    decode [0xB9, 0x00, 0x02] = .ok (.ldaAby 0x0200, []) ∧ decode [0xD0, 0xFB] = .ok (.bne 0xFB, []) ∧
    decode [0x6C, 0x00, 0x03] = .ok (.jmpInd 0x0300, []) ∧ decode [0xA1, 0x20] = .ok (.ldaIzx 0x20, []) ∧
    decode [0xB1, 0x20] = .ok (.ldaIzy 0x20, [])

/-- O5. The branch operand of 30_encoding.md R101 against the relative mode of R88. -/
def Obligations.BranchOperandReachesItsTarget : Prop :=
  ∀ (s : State) (target : Word),
    (∀ (b : Byte) (i : Instr), branchOperand s.pc target = some b → i.operand = .rel b →
      address i s = some target) ∧
    ((branchOperand s.pc target).isSome = true ↔
      -128 ≤ (target - (s.pc + 2)).toInt ∧ (target - (s.pc + 2)).toInt ≤ 127)

/-- O6. The Bus contract of 20_memory.md R51; both operations are total. -/
def Obligations.StoreThenFetch : Prop :=
  ∀ (s : State) (a : Word) (v : Byte), s.mem.wf = true →
    (s.store a v).load a = v ∧ (∀ b : Word, b ≠ a → (s.store a v).load b = s.load b) ∧
    (s.store a v).mem.wf = true ∧ { s.store a v with mem := s.mem } = s

/-- O7. The memory of the model is exactly the total map of 10_state.md R43. The canonical form is the model's own. -/
def Obligations.CanonicalMemoriesThatReadAlikeAreEqual : Prop :=
  ∀ m m' : Memory, m.wf = true → m'.wf = true → (∀ a : Word, m.read a = m'.read a) → m = m'

/-- O8. Instruction fetch reads the same memory with no prefetch (20_memory.md R69). -/
def Obligations.StoreIsSeenByTheNextInstructionFetch : Prop :=
  ∀ s : State, s.mem.wf = true →
    ∃ t, exec (.staAbs (s.pc + 3)) s = .next t ∧ (fetchInstr t.mem t.pc).opcode = s.a

/-- O9. The state after `Reset()` (10_state.md R46) and its accesses (70_reset_and_hazards.md R280), whatever the state before, jammed or counting. -/
def Obligations.ResetEffect : Prop :=
  ∀ (sp : Byte) (s : State),
    resetCore sp s =
      { a := 0, x := 0, y := 0, sp := sp, pc := word (s.load 0xFFFD) (s.load 0xFFFC),
        flags := { n := false, v := false, b := false, d := false, i := false, z := false, c := false },
        cycleDebt := 0, jammed := false, nmiPending := false, irqLine := false, mem := s.mem } ∧
    HostOp.apply sp .reset s = .next (resetCore sp s) ∧
    (resetCore sp s).boundary = true ∧ (resetCore sp s).FetchesNext ∧
    resetAccesses = [.fetch 0xFFFC, .fetch 0xFFFD] ∧
    ∀ m : Memory, (∀ a : Word, Access.fetch a ∈ resetAccesses → m.read a = s.load a) →
      resetCore sp { s with mem := m } = { resetCore sp s with mem := m }

/-- O10. The model's choices of log 1 (memory fill) and log 2 (SP_RESET), not rules of the spec. -/
def Obligations.ResetStateHolds : Prop :=
  State.reset = resetFrom 0xFF [] ∧ (∀ a : Word, State.reset.load a = 0x00) ∧ State.reset.pc = 0x0000

/-- O11. The jammed state (60_exceptions.md R241). -/
def Obligations.JammedTickChangesNothing : Prop :=
  ∀ s : State, s.jammed = true →
    step s = .next s ∧ tickAccesses s = [] ∧ s.boundary = false ∧
    raiseNmi s = { s with nmiPending := true } ∧
    (∀ level : Bool, setIrq level s = { s with irqLine := level }) ∧
    (∀ (a : Word) (v : Byte), hostWrite a v s = { s with mem := s.mem.write a v }) ∧
    (∀ (k : Nat) (level : Bool) (a : Word) (v : Byte),
      Host.Core.run Sys2Proof.core k (hostWrite a v (setIrq level (raiseNmi s))) =
        .next (hostWrite a v (setIrq level (raiseNmi s)))) ∧
    (∀ (sp : Byte) (op : HostOp), ∃ t, op.apply sp s = .next t ∧ (t.jammed = false ↔ op = .reset)) ∧
    ∀ (sp : Byte) (level : Bool), (resetCore sp (setIrq level (raiseNmi s))).jammed = false ∧
      (resetCore sp (setIrq level (raiseNmi s))).nmiPending = false ∧
      (resetCore sp (setIrq level (raiseNmi s))).irqLine = false

/-- O12. The boundary tick fetches, decodes and runs one instruction (60_exceptions.md R240, R243). -/
def Obligations.StepRunsTheDecodedInstruction : Prop :=
  ∀ (s : State) (i : Instr) (rest : List Byte), s.FetchesNext →
    decode [s.load s.pc, s.load (s.pc + 1), s.load (s.pc + 2)] = .ok (i, rest) → step s = exec i s

/-- O13. The host's load of a program (log 7) against the fetch of 60_exceptions.md R240. -/
def Obligations.PlacedWordRuns : Prop :=
  ∀ (s : State) (nbits w : Nat) (i : Instr), s.mem.wf = true → decodeTableWord nbits w = some i →
    step (s.withFetchWord nbits w) = exec i (s.withFetchWord nbits w)

/-- O14. Step always completes, every Bus access succeeds, no instruction stops the model (60_exceptions.md R240, R248). -/
def Obligations.EveryTickAndInstructionCompletes : Prop :=
  (∀ s : State, ∃ t, step s = .next t) ∧ ∀ (i : Instr) (s : State), ∃ t, exec i s = .next t

/-- O15. Priority and masking (60_exceptions.md R249, R250, R253). -/
def Obligations.BoundaryTickOrder : Prop :=
  ∀ s : State, s.jammed = false → s.cycleDebt = 0 →
    (s.nmiPending = true → ∃ t, step s = .next t ∧ t.nmiPending = false ∧ t.irqLine = s.irqLine ∧
      t.pc = word (t.load 0xFFFB) (t.load 0xFFFA)) ∧
    (s.nmiPending = false → s.irqLine = true → s.flags.i = false → ∃ t, step s = .next t ∧
      t.nmiPending = false ∧ t.irqLine = true ∧ t.pc = word (t.load 0xFFFF) (t.load 0xFFFE)) ∧
    (s.nmiPending = false → (s.irqLine = false ∨ s.flags.i = true) →
      step s = exec (fetchInstr s.mem s.pc) s)

/-- O16. The entry sequence of NMI and IRQ (60_exceptions.md R252). -/
def Obligations.InterruptEntryEffect : Prop :=
  ∀ (s : State) (vector : Word), s.jammed = false → s.cycleDebt = 0 →
    (vector = 0xFFFA ∧ s.nmiPending = true ∨
      vector = 0xFFFE ∧ s.nmiPending = false ∧ s.irqLine = true ∧ s.flags.i = false) →
    ∃ t image, step s = .next t ∧
      t = { s with
            sp := s.sp - 3
            flags := { s.flags with i := true }
            pc := word (t.mem.read (vector + 1)) (t.mem.read vector)
            mem := ((s.mem.write (stackAddr s.sp) (hi8 s.pc)).write (stackAddr (s.sp - 1)) (lo8 s.pc)).write
              (stackAddr (s.sp - 2)) image
            cycleDebt := 6
            nmiPending := false } ∧
      image = s.flags.packP false ∧ image.getLsbD 5 = true ∧ image.getLsbD 4 = false ∧ image.getLsbD 2 = s.flags.i ∧
      tickAccesses s = [.store (stackAddr s.sp), .store (stackAddr (s.sp - 1)), .store (stackAddr (s.sp - 2)),
        .fetch vector, .fetch (vector + 1)] ∧
      Host.Core.run Sys2Proof.core 6 t = .next { t with cycleDebt := 0 }

/-- O17. Entry and RTI are inverse (60_exceptions.md R252, R256). -/
def Obligations.ReturnFromInterruptResumesTheProgram : Prop :=
  ∀ s t : State, s.mem.wf = true → s.jammed = false → s.cycleDebt = 0 →
    (s.nmiPending = true ∨ s.irqLine = true ∧ s.flags.i = false) → step s = .next t →
    ∃ u, exec .rti { t with cycleDebt := 0 } = .next u ∧
      u.a = s.a ∧ u.x = s.x ∧ u.y = s.y ∧ u.sp = s.sp ∧ u.pc = s.pc ∧ u.flags = s.flags ∧ u.irqLine = s.irqLine ∧
      ∀ a : Word, a ≠ stackAddr s.sp → a ≠ stackAddr (s.sp - 1) → a ≠ stackAddr (s.sp - 2) → u.load a = s.load a

/-- O18. Counting ticks (60_exceptions.md R242). -/
def Obligations.InstructionOccupiesItsCycles : Prop :=
  (∀ s : State, s.jammed = false → 0 < s.cycleDebt →
      step s = .next { s with cycleDebt := s.cycleDebt - 1 } ∧ tickAccesses s = [] ∧ s.boundary = false) ∧
    ∀ (s : State) (i : Instr), s.FetchesNext → i = fetchInstr s.mem s.pc → i.mnemonic ≠ .illegal →
      ∃ t, step s = .next t ∧ s.boundary = true ∧ ∀ k : Nat, 1 ≤ k → k ≤ Instr.cycles i s →
        Host.Core.run Sys2Proof.core k s = .next { t with cycleDebt := Instr.cycles i s - k }

/-- O19. The cycle rule (30_encoding.md R94) with the base table of R97; `Instr.cycles` reads the tables, `exec` the counts of its rows. -/
def Obligations.DebtIsBasePlusExtraLessOne : Prop :=
  ∀ (i : Instr) (s t : State), i.mnemonic ≠ .illegal → exec i s = .next t →
    t.cycleDebt + 1 = baseCycles i.mnemonic i.operand.mode + Instr.extraCycles i s ∧
    2 ≤ Instr.cycles i s ∧ Instr.cycles i s ≤ 7 ∧
    Instr.extraCycles i s =
      (if Instr.cls i = .read ∧ i.operand.mode ∈ [Mode.abx, Mode.aby, Mode.izy] ∧ (Instr.resolved i s).crossed = true
        then 1
      else if Instr.cls i = .branch ∧ branchCondition i.mnemonic s.flags = true then
        (if (Instr.resolved i s).crossed = true then 2 else 1)
      else 0)

/-- O20. No double advance of PC (70_reset_and_hazards.md R301, 10_state.md R27). -/
def Obligations.PcAdvancesByTheLength : Prop :=
  ∀ (i : Instr) (s t : State), exec i s = .next t →
    (transfersControl i.mnemonic = false ∨ Instr.cls i = .branch ∧ branchCondition i.mnemonic s.flags = false) →
    t.pc.toNat = (s.pc.toNat + 1 + i.operand.mode.operandBytes) % 65536

/-- O21. The invariants of 10_state.md R49, with the canonical form of memory, kept by every step. -/
def Obligations.EveryTickKeepsTheInvariant : Prop :=
  ∀ s t : State, s.Inv → step s = .next t → t.Inv

/-- O22. The invariant of 10_state.md R49 at reset. -/
def Obligations.ResetStateSatisfiesTheInvariant : Prop :=
  State.reset.Inv ∧ ∀ (sp : Byte) (m : Memory), m.wf = true → (resetFrom sp m).Inv

/-- O23. The invariants of 10_state.md R49 over the host operations of 60_exceptions.md R245. -/
def Obligations.InvariantHoldsBetweenHostOperations : Prop :=
  ∀ (sp : Byte) (s : State), Reachable sp s →
    (0x0100 ≤ (stackAddr s.sp).toNat ∧ (stackAddr s.sp).toNat = 0x0100 + s.sp.toNat ∧
      (stackAddr s.sp).toNat ≤ 0x01FF) ∧
    s.cycleDebt ≤ 6 ∧ (s.jammed = true → s.cycleDebt = 0) ∧ s.flags.b = false

/-- O24. The flag summary (10_state.md R45) as a frame over all instructions. -/
def Obligations.FlagFrame : Prop :=
  (∀ (i : Instr) (s t : State), exec i s = .next t →
      ((flagsWritten i.mnemonic).n = false → t.flags.n = s.flags.n) ∧
      ((flagsWritten i.mnemonic).v = false → t.flags.v = s.flags.v) ∧
      ((flagsWritten i.mnemonic).d = false → t.flags.d = s.flags.d) ∧
      ((flagsWritten i.mnemonic).i = false → t.flags.i = s.flags.i) ∧
      ((flagsWritten i.mnemonic).z = false → t.flags.z = s.flags.z) ∧
      ((flagsWritten i.mnemonic).c = false → t.flags.c = s.flags.c) ∧
      t.flags.b = s.flags.b) ∧
    ∀ s t : State, s.jammed = false → s.cycleDebt = 0 →
      (s.nmiPending = true ∨ s.irqLine = true ∧ s.flags.i = false) → step s = .next t →
      t.flags = { s.flags with i := true }

/-- O25. The register summary (10_state.md R44) as a frame over all instructions. -/
def Obligations.RegisterFrame : Prop :=
  ∀ (i : Instr) (s t : State), exec i s = .next t →
    ((regsWritten i.mnemonic i.operand.mode).a = false → t.a = s.a) ∧
    ((regsWritten i.mnemonic i.operand.mode).x = false → t.x = s.x) ∧
    ((regsWritten i.mnemonic i.operand.mode).y = false → t.y = s.y) ∧
    ((regsWritten i.mnemonic i.operand.mode).sp = false → t.sp = s.sp) ∧
    t.nmiPending = s.nmiPending ∧ t.irqLine = s.irqLine ∧
    (i.mnemonic ≠ .illegal → t.jammed = s.jammed)

/-- O26. The core makes only the accesses of 20_memory.md R66, so only the stores it lists change memory. -/
def Obligations.MemoryFrame : Prop :=
  (∀ (i : Instr) (s t : State) (a : Word), exec i s = .next t → Access.store a ∉ instrAccesses i s →
      t.load a = s.load a) ∧
    ∀ (s t : State) (a : Word), step s = .next t → Access.store a ∉ tickAccesses s → t.load a = s.load a

/-- O27. The core makes only the accesses of 20_memory.md R66: no other byte of memory can influence a tick. -/
def Obligations.TickReadsOnlyWhatItFetches : Prop :=
  ∀ (s : State) (m : Memory), s.mem.wf = true → m.wf = true →
    (∀ a : Word, Access.fetch a ∈ tickAccesses s → m.read a = s.mem.read a) →
    tickAccesses { s with mem := m } = tickAccesses s ∧
    ∃ t t', step s = .next t ∧ step { s with mem := m } = .next t' ∧
      { t' with mem := t.mem } = t ∧
      ∀ a : Word, Access.store a ∈ tickAccesses s → t'.load a = t.load a

/-- O28. `Resolve(mode)` in numbers (30_encoding.md R88); a page is the address divided by 256. -/
def Obligations.ResolveGivesTheEffectiveAddress : Prop :=
  ∀ (s : State) (b : Byte) (w : Word),
    (∀ o : Operand, (s.pastInstr o).pc.toNat = (s.pc.toNat + 1 + o.mode.operandBytes) % 65536) ∧
    resolve .imp (s.pastInstr .imp) = { ea := none, crossed := false } ∧
    resolve .acc (s.pastInstr .acc) = { ea := none, crossed := false } ∧
    resolve (.imm b) (s.pastInstr (.imm b)) = { ea := some (s.pc + 1), crossed := false } ∧
    resolve (.zp b) (s.pastInstr (.zp b)) = { ea := some (BitVec.ofNat 16 b.toNat), crossed := false } ∧
    resolve (.zpx b) (s.pastInstr (.zpx b)) =
      { ea := some (BitVec.ofNat 16 ((b.toNat + s.x.toNat) % 256)), crossed := false } ∧
    resolve (.zpy b) (s.pastInstr (.zpy b)) =
      { ea := some (BitVec.ofNat 16 ((b.toNat + s.y.toNat) % 256)), crossed := false } ∧
    resolve (.abs w) (s.pastInstr (.abs w)) = { ea := some w, crossed := false } ∧
    resolve (.abx w) (s.pastInstr (.abx w)) =
      { ea := some (BitVec.ofNat 16 (w.toNat + s.x.toNat)),
        crossed := decide ((w.toNat + s.x.toNat) % 65536 / 256 ≠ w.toNat / 256) } ∧
    resolve (.aby w) (s.pastInstr (.aby w)) =
      { ea := some (BitVec.ofNat 16 (w.toNat + s.y.toNat)),
        crossed := decide ((w.toNat + s.y.toNat) % 65536 / 256 ≠ w.toNat / 256) } ∧
    resolve (.rel b) (s.pastInstr (.rel b)) =
      { ea := some (BitVec.ofInt 16 (s.pc.toNat + 2 + b.toInt)),
        crossed := decide (((s.pc.toNat : Int) + 2 + b.toInt) % 65536 / 256 ≠ ((s.pc.toNat : Int) + 2) % 65536 / 256) } ∧
    resolve (.ind w) (s.pastInstr (.ind w)) =
      { ea := some (BitVec.ofNat 16 (wordAt s w.toNat
          (if Config.jmpIndPageWrap then w.toNat / 256 * 256 + (w.toNat % 256 + 1) % 256 else w.toNat + 1))),
        crossed := false } ∧
    resolve (.izx b) (s.pastInstr (.izx b)) =
      { ea := some (BitVec.ofNat 16 (wordAt s ((b.toNat + s.x.toNat) % 256) ((b.toNat + s.x.toNat + 1) % 256))),
        crossed := false } ∧
    resolve (.izy b) (s.pastInstr (.izy b)) =
      { ea := some (BitVec.ofNat 16 (wordAt s b.toNat ((b.toNat + 1) % 256) + s.y.toNat)),
        crossed := decide ((wordAt s b.toNat ((b.toNat + 1) % 256) + s.y.toNat) % 65536 / 256 ≠
          wordAt s b.toNat ((b.toNat + 1) % 256) / 256) }

/-- O29. Loads (40_load_store.md R111 to R113); the operand byte is `M`, the costs are base plus extra by R94. -/
def Obligations.LoadEffects : Prop :=
  (RowsOf .lda [(0xA9, .imm, 2, 2), (0xA5, .zp, 2, 3), (0xB5, .zpx, 2, 4), (0xAD, .abs, 3, 4), (0xBD, .abx, 3, 4), (0xB9, .aby, 3, 4), (0xA1, .izx, 2, 6), (0xB1, .izy, 2, 5)]) ∧
    (RowsOf .ldx [(0xA2, .imm, 2, 2), (0xA6, .zp, 2, 3), (0xB6, .zpy, 2, 4), (0xAE, .abs, 3, 4), (0xBE, .aby, 3, 4)]) ∧
    (RowsOf .ldy [(0xA0, .imm, 2, 2), (0xA4, .zp, 2, 3), (0xB4, .zpx, 2, 4), (0xAC, .abs, 3, 4), (0xBC, .abx, 3, 4)]) ∧
    (∀ (i : Instr) (s : State), i.mnemonic = .lda →
      exec i s = .next (completed i s { s with a := operandByte i s, flags := zeroNegative s.flags (operandByte i s) })) ∧
    (∀ (i : Instr) (s : State), i.mnemonic = .ldx →
      exec i s = .next (completed i s { s with x := operandByte i s, flags := zeroNegative s.flags (operandByte i s) })) ∧
    (∀ (i : Instr) (s : State), i.mnemonic = .ldy →
      exec i s = .next (completed i s { s with y := operandByte i s, flags := zeroNegative s.flags (operandByte i s) }))

/-- O30. Stores (40_load_store.md R114 to R116). -/
def Obligations.StoreEffects : Prop :=
  (RowsOf .sta [(0x85, .zp, 2, 3), (0x95, .zpx, 2, 4), (0x8D, .abs, 3, 4), (0x9D, .abx, 3, 5), (0x99, .aby, 3, 5), (0x81, .izx, 2, 6), (0x91, .izy, 2, 6)]) ∧
    (RowsOf .stx [(0x86, .zp, 2, 3), (0x96, .zpy, 2, 4), (0x8E, .abs, 3, 4)]) ∧
    (RowsOf .sty [(0x84, .zp, 2, 3), (0x94, .zpx, 2, 4), (0x8C, .abs, 3, 4)]) ∧
    (∀ (i : Instr) (s : State), i.mnemonic = .sta → ∃ ea, address i s = some ea ∧
      Access.fetch ea ∉ handlerAccesses i (s.pastInstr i.operand) ∧
      exec i s = .next (completed i s { s with mem := s.mem.write ea s.a })) ∧
    (∀ (i : Instr) (s : State), i.mnemonic = .stx → ∃ ea, address i s = some ea ∧
      Access.fetch ea ∉ handlerAccesses i (s.pastInstr i.operand) ∧
      exec i s = .next (completed i s { s with mem := s.mem.write ea s.x })) ∧
    (∀ (i : Instr) (s : State), i.mnemonic = .sty → ∃ ea, address i s = some ea ∧
      Access.fetch ea ∉ handlerAccesses i (s.pastInstr i.operand) ∧
      exec i s = .next (completed i s { s with mem := s.mem.write ea s.y }))

/-- O31. Transfers (41_transfer.md R120 to R125). -/
def Obligations.TransferEffects : Prop :=
  (RowsOf .tax [(0xAA, .imp, 1, 2)]) ∧
    (RowsOf .tay [(0xA8, .imp, 1, 2)]) ∧
    (RowsOf .txa [(0x8A, .imp, 1, 2)]) ∧
    (RowsOf .tya [(0x98, .imp, 1, 2)]) ∧
    (RowsOf .tsx [(0xBA, .imp, 1, 2)]) ∧
    (RowsOf .txs [(0x9A, .imp, 1, 2)]) ∧
    (∀ s : State, exec .tax s = .next (completed .tax s { s with x := s.a, flags := zeroNegative s.flags (s.a) })) ∧
    (∀ s : State, exec .tay s = .next (completed .tay s { s with y := s.a, flags := zeroNegative s.flags (s.a) })) ∧
    (∀ s : State, exec .txa s = .next (completed .txa s { s with a := s.x, flags := zeroNegative s.flags (s.x) })) ∧
    (∀ s : State, exec .tya s = .next (completed .tya s { s with a := s.y, flags := zeroNegative s.flags (s.y) })) ∧
    (∀ s : State, exec .tsx s = .next (completed .tsx s { s with x := s.sp, flags := zeroNegative s.flags (s.sp) })) ∧
    (∀ s : State, exec .txs s = .next (completed .txs s { s with sp := s.x }))

/-- O32. Pushes (42_stack.md R130, R131). -/
def Obligations.PushEffects : Prop :=
  (RowsOf .pha [(0x48, .imp, 1, 3)]) ∧
    (RowsOf .php [(0x08, .imp, 1, 3)]) ∧
    (∀ s : State, exec .pha s = .next (completed .pha s
      { s with mem := s.mem.write (BitVec.ofNat 16 (0x0100 + s.sp.toNat)) s.a, sp := BitVec.ofInt 8 (s.sp.toNat - 1) })) ∧
    (∀ s : State, exec .php s = .next (completed .php s
      { s with
        mem := s.mem.write (BitVec.ofNat 16 (0x0100 + s.sp.toNat)) (BitVec.ofNat 8 (s.flags.n.toNat * 128 +
          s.flags.v.toNat * 64 + 32 + 16 + s.flags.d.toNat * 8 + s.flags.i.toNat * 4 + s.flags.z.toNat * 2 +
          s.flags.c.toNat))
        sp := BitVec.ofInt 8 (s.sp.toNat - 1) }))

/-- O33. Pulls (42_stack.md R132, R133). -/
def Obligations.PullEffects : Prop :=
  (RowsOf .pla [(0x68, .imp, 1, 4)]) ∧
    (RowsOf .plp [(0x28, .imp, 1, 4)]) ∧
    ∀ (s : State) (v : Byte), v = s.load (BitVec.ofNat 16 (0x0100 + (s.sp.toNat + 1) % 256)) →
      exec .pla s = .next (completed .pla s
        { s with a := v, sp := BitVec.ofNat 8 (s.sp.toNat + 1), flags := zeroNegative s.flags v }) ∧
      exec .plp s = .next (completed .plp s
        { s with
          sp := BitVec.ofNat 8 (s.sp.toNat + 1)
          flags := { n := v.getLsbD 7, v := v.getLsbD 6, b := s.flags.b, d := v.getLsbD 3, i := v.getLsbD 2,
                     z := v.getLsbD 1, c := v.getLsbD 0 } }) ∧
      (s.jammed = false → s.irqLine = true → s.nmiPending = false → v.getLsbD 2 = false →
        ∃ t u, exec .plp s = .next t ∧ Host.Core.run Sys2Proof.core 4 t = .next u ∧
          u.pc = word (u.load 0xFFFF) (u.load 0xFFFE) ∧ u.sp = s.sp - 2 ∧ u.flags.i = true)

/-- O34. Push and pull are inverse (42_stack.md R134). -/
def Obligations.PushThenPullRestores : Prop :=
  ∀ s : State, s.mem.wf = true →
    (∃ t u, exec .php s = .next t ∧ exec .plp t = .next u ∧ u.flags = s.flags ∧ u.sp = s.sp ∧ u.a = s.a) ∧
    ∃ t u, exec .pha s = .next t ∧ exec .pla t = .next u ∧ u.a = s.a ∧ u.flags = zeroNegative s.flags s.a ∧
      u.sp = s.sp

/-- O35. The status byte (10_state.md R37, R38). -/
def Obligations.StatusByteImage : Prop :=
  (∀ (f : Flags) (b4 : Bool),
      f.packP b4 = BitVec.ofNat 8 (f.n.toNat * 128 + f.v.toNat * 64 + 1 * 32 + b4.toNat * 16 + f.d.toNat * 8 +
        f.i.toNat * 4 + f.z.toNat * 2 + f.c.toNat * 1) ∧
      (f.packP b4).getLsbD 7 = f.n ∧ (f.packP b4).getLsbD 6 = f.v ∧ (f.packP b4).getLsbD 5 = true ∧
      (f.packP b4).getLsbD 4 = b4 ∧ (f.packP b4).getLsbD 3 = f.d ∧ (f.packP b4).getLsbD 2 = f.i ∧
      (f.packP b4).getLsbD 1 = f.z ∧ (f.packP b4).getLsbD 0 = f.c ∧
      { f with b := true }.packP b4 = { f with b := false }.packP b4) ∧
    (∀ (f : Flags) (v : Byte), f.unpackP v =
      { n := v.getLsbD 7, v := v.getLsbD 6, b := f.b, d := v.getLsbD 3, i := v.getLsbD 2, z := v.getLsbD 1,
        c := v.getLsbD 0 }) ∧
    ∀ s : State, s.mem.wf = true →
      (∃ t, exec .php s = .next t ∧ t.load (stackAddr s.sp) = s.flags.packP true) ∧
      (∃ t, exec .brk s = .next t ∧ t.load (stackAddr (s.sp - 2)) = s.flags.packP true) ∧
      (∃ t, exec .plp s = .next t ∧ t.flags = s.flags.unpackP (s.load (stackAddr (s.sp + 1)))) ∧
      (∃ t, exec .rti s = .next t ∧ t.flags = s.flags.unpackP (s.load (stackAddr (s.sp + 1)))) ∧
      (s.jammed = false → s.cycleDebt = 0 → (s.nmiPending = true ∨ s.irqLine = true ∧ s.flags.i = false) →
        ∃ t, step s = .next t ∧ t.load (stackAddr (s.sp - 2)) = s.flags.packP false)

/-- O36. Logic (43_logic.md R140 to R143). -/
def Obligations.LogicEffects : Prop :=
  (RowsOf .and [(0x29, .imm, 2, 2), (0x25, .zp, 2, 3), (0x35, .zpx, 2, 4), (0x2D, .abs, 3, 4), (0x3D, .abx, 3, 4), (0x39, .aby, 3, 4), (0x21, .izx, 2, 6), (0x31, .izy, 2, 5)]) ∧
    (RowsOf .ora [(0x09, .imm, 2, 2), (0x05, .zp, 2, 3), (0x15, .zpx, 2, 4), (0x0D, .abs, 3, 4), (0x1D, .abx, 3, 4), (0x19, .aby, 3, 4), (0x01, .izx, 2, 6), (0x11, .izy, 2, 5)]) ∧
    (RowsOf .eor [(0x49, .imm, 2, 2), (0x45, .zp, 2, 3), (0x55, .zpx, 2, 4), (0x4D, .abs, 3, 4), (0x5D, .abx, 3, 4), (0x59, .aby, 3, 4), (0x41, .izx, 2, 6), (0x51, .izy, 2, 5)]) ∧
    (RowsOf .bit [(0x24, .zp, 2, 3), (0x2C, .abs, 3, 4)]) ∧
    (∀ (i : Instr) (s : State), i.mnemonic = .and →
      exec i s = .next (completed i s { s with a := s.a &&& operandByte i s, flags := zeroNegative s.flags (s.a &&& operandByte i s) })) ∧
    (∀ (i : Instr) (s : State), i.mnemonic = .ora →
      exec i s = .next (completed i s { s with a := s.a ||| operandByte i s, flags := zeroNegative s.flags (s.a ||| operandByte i s) })) ∧
    (∀ (i : Instr) (s : State), i.mnemonic = .eor →
      exec i s = .next (completed i s { s with a := s.a ^^^ operandByte i s, flags := zeroNegative s.flags (s.a ^^^ operandByte i s) })) ∧
    (∀ (i : Instr) (s : State), i.mnemonic = .bit →
      exec i s = .next (completed i s { s with flags := { s.flags with
        z := decide (s.a &&& operandByte i s = 0), n := (operandByte i s).getLsbD 7, v := (operandByte i s).getLsbD 6 } }))

/-- O37. `AddBinary` (44_arithmetic.md R150). -/
def Obligations.BinaryAdditionMeaning : Prop :=
  ∀ (a m : Byte) (cin : Bool),
    (addBinary a m cin).result.toNat = (a.toNat + m.toNat + cin.toNat) % 256 ∧
    (addBinary a m cin).c = decide (a.toNat + m.toNat + cin.toNat > 255) ∧
    (addBinary a m cin).z = decide ((addBinary a m cin).result = 0) ∧
    (addBinary a m cin).n = (addBinary a m cin).result.getLsbD 7 ∧
    ((addBinary a m cin).v = true ↔
      a.toInt + m.toInt + cin.toNat < -128 ∨ 127 < a.toInt + m.toInt + cin.toNat) ∧
    (addBinary a m cin).v = (decide (a.getLsbD 7 = m.getLsbD 7) &&
      decide ((addBinary a m cin).result.getLsbD 7 ≠ a.getLsbD 7))

/-- O38. ADC (44_arithmetic.md R151). `decAdc` is the parameter DecAdc as log 4 takes it. -/
def Obligations.AdcEffect : Prop :=
  (RowsOf .adc [(0x69, .imm, 2, 2), (0x65, .zp, 2, 3), (0x75, .zpx, 2, 4), (0x6D, .abs, 3, 4), (0x7D, .abx, 3, 4), (0x79, .aby, 3, 4), (0x61, .izx, 2, 6), (0x71, .izy, 2, 5)]) ∧
    ∀ (i : Instr) (s : State) (r : AluResult), i.mnemonic = .adc →
      r = (if s.flags.d then decAdc s.a (operandByte i s) s.flags.c
        else addBinary s.a (operandByte i s) s.flags.c) →
      exec i s = .next (completed i s
        { s with a := r.result, flags := { s.flags with c := r.c, z := r.z, v := r.v, n := r.n } })

/-- O39. SBC (44_arithmetic.md R154). `decSbc` is the parameter DecSbc as log 4 takes it. -/
def Obligations.SbcEffect : Prop :=
  (RowsOf .sbc [(0xE9, .imm, 2, 2), (0xE5, .zp, 2, 3), (0xF5, .zpx, 2, 4), (0xED, .abs, 3, 4), (0xFD, .abx, 3, 4), (0xF9, .aby, 3, 4), (0xE1, .izx, 2, 6), (0xF1, .izy, 2, 5)]) ∧
    (∀ (i : Instr) (s : State) (r : AluResult), i.mnemonic = .sbc →
      r = (if s.flags.d then decSbc s.a (operandByte i s) s.flags.c
        else addBinary s.a (~~~operandByte i s) s.flags.c) →
      exec i s = .next (completed i s
        { s with a := r.result, flags := { s.flags with c := r.c, z := r.z, v := r.v, n := r.n } })) ∧
    ∀ (a m : Byte) (cin : Bool) (diff : Int), diff = (a.toNat : Int) - m.toNat - (1 - cin.toNat) →
      (addBinary a (~~~m) cin).result = BitVec.ofInt 8 diff ∧
      ((addBinary a (~~~m) cin).c = true ↔ 0 ≤ diff) ∧
      ((addBinary a (~~~m) cin).v = true ↔
        a.toInt - m.toInt - (1 - cin.toNat) < -128 ∨ 127 < a.toInt - m.toInt - (1 - cin.toNat)) ∧
      (addBinary a (~~~m) cin).v = (decide (a.getLsbD 7 ≠ m.getLsbD 7) &&
        decide ((addBinary a (~~~m) cin).result.getLsbD 7 ≠ a.getLsbD 7))

/-- O40. What fixes `DecAdc` (44_arithmetic.md R152), whatever definition is taken. -/
def Obligations.DecimalAdditionIsBaseTen : Prop :=
  ∀ (i : Instr) (s : State) (total : Nat), i.mnemonic = .adc → s.flags.d = true → validBcd s.a → validBcd (operandByte i s) →
    total = bcdValue s.a + bcdValue (operandByte i s) + s.flags.c.toNat →
    ∃ t, exec i s = .next t ∧ t.a = bcdByte (total % 100) ∧ t.flags.c = decide (total > 99)

/-- O41. What fixes `DecSbc` (44_arithmetic.md R155), whatever definition is taken. -/
def Obligations.DecimalSubtractionIsBaseTen : Prop :=
  ∀ (i : Instr) (s : State) (diff : Int), i.mnemonic = .sbc → s.flags.d = true → validBcd s.a → validBcd (operandByte i s) →
    diff = (bcdValue s.a : Int) - bcdValue (operandByte i s) - (1 - s.flags.c.toNat) →
    ∃ t, exec i s = .next t ∧ t.a = bcdByte (diff % 100).toNat ∧ t.flags.c = decide (0 ≤ diff)

/-- O42. The flags of the reference definitions (44_arithmetic.md R153, R156), and the example of R155, whose operand 0xDA is no valid BCD byte: the model's choice of log 4, the spec leaves DecAdc and DecSbc open there. -/
def Obligations.DecimalFlagsFollowTheResult : Prop :=
  (∀ (a m : Byte) (cin : Bool),
    ((decAdc a m cin).z = decide ((decAdc a m cin).result = 0) ∧
      (decAdc a m cin).n = (decAdc a m cin).result.getLsbD 7 ∧
      ((decAdc a m cin).v = true ↔ a.getLsbD 7 = m.getLsbD 7 ∧ (decAdc a m cin).result.getLsbD 7 ≠ a.getLsbD 7)) ∧
    (decSbc a m cin).z = decide ((decSbc a m cin).result = 0) ∧
    (decSbc a m cin).n = (decSbc a m cin).result.getLsbD 7 ∧
    ((decSbc a m cin).v = true ↔ a.getLsbD 7 ≠ m.getLsbD 7 ∧ (decSbc a m cin).result.getLsbD 7 ≠ a.getLsbD 7) ∧
    (decSbc a m cin).c = (addBinary a (~~~m) cin).c) ∧
    (decAdc 0x50 (~~~0x25) true).result = 0x91 ∧ (decSbc 0x50 0x25 true).result = 0x25

/-- O43. Comparison (44_arithmetic.md R157 to R160). -/
def Obligations.CompareEffects : Prop :=
  (RowsOf .cmp [(0xC9, .imm, 2, 2), (0xC5, .zp, 2, 3), (0xD5, .zpx, 2, 4), (0xCD, .abs, 3, 4), (0xDD, .abx, 3, 4), (0xD9, .aby, 3, 4), (0xC1, .izx, 2, 6), (0xD1, .izy, 2, 5)]) ∧
    (RowsOf .cpx [(0xE0, .imm, 2, 2), (0xE4, .zp, 2, 3), (0xEC, .abs, 3, 4)]) ∧
    (RowsOf .cpy [(0xC0, .imm, 2, 2), (0xC4, .zp, 2, 3), (0xCC, .abs, 3, 4)]) ∧
    (∀ (i : Instr) (s : State), i.mnemonic = .cmp →
      exec i s = .next (completed i s { s with flags := { s.flags with
        c := decide ((operandByte i s).toNat ≤ s.a.toNat), z := decide (s.a = operandByte i s), n := (s.a - operandByte i s).getLsbD 7 } })) ∧
    (∀ (i : Instr) (s : State), i.mnemonic = .cpx →
      exec i s = .next (completed i s { s with flags := { s.flags with
        c := decide ((operandByte i s).toNat ≤ s.x.toNat), z := decide (s.x = operandByte i s), n := (s.x - operandByte i s).getLsbD 7 } })) ∧
    (∀ (i : Instr) (s : State), i.mnemonic = .cpy →
      exec i s = .next (completed i s { s with flags := { s.flags with
        c := decide ((operandByte i s).toNat ≤ s.y.toNat), z := decide (s.y = operandByte i s), n := (s.y - operandByte i s).getLsbD 7 } })) ∧
    ∀ r m : Byte, (addBinary r (~~~m) true).c = decide (m.toNat ≤ r.toNat) ∧
      (addBinary r (~~~m) true).z = decide (r = m) ∧ (addBinary r (~~~m) true).n = (r - m).getLsbD 7

/-- O44. INC and DEC (45_incdec.md R170, R171). -/
def Obligations.MemoryIncrementEffects : Prop :=
  (RowsOf .inc [(0xE6, .zp, 2, 5), (0xF6, .zpx, 2, 6), (0xEE, .abs, 3, 6), (0xFE, .abx, 3, 7)]) ∧
    (RowsOf .dec [(0xC6, .zp, 2, 5), (0xD6, .zpx, 2, 6), (0xCE, .abs, 3, 6), (0xDE, .abx, 3, 7)]) ∧
    (∀ (i : Instr) (s : State) (v : Byte), i.mnemonic = .inc → v = BitVec.ofNat 8 ((operandByte i s).toNat + 1) →
      ∃ ea, address i s = some ea ∧ operandByte i s = s.load ea ∧
        handlerAccesses i (s.pastInstr i.operand) = [.fetch ea, .store ea] ∧
        exec i s = .next (completed i s { s with mem := s.mem.write ea v, flags := zeroNegative s.flags v })) ∧
    (∀ (i : Instr) (s : State) (v : Byte), i.mnemonic = .dec → v = BitVec.ofInt 8 ((operandByte i s).toNat - 1) →
      ∃ ea, address i s = some ea ∧ operandByte i s = s.load ea ∧
        handlerAccesses i (s.pastInstr i.operand) = [.fetch ea, .store ea] ∧
        exec i s = .next (completed i s { s with mem := s.mem.write ea v, flags := zeroNegative s.flags v }))

/-- O45. Register increments and decrements (45_incdec.md R172 to R175). -/
def Obligations.RegisterIncrementEffects : Prop :=
  (RowsOf .inx [(0xE8, .imp, 1, 2)]) ∧
    (RowsOf .iny [(0xC8, .imp, 1, 2)]) ∧
    (RowsOf .dex [(0xCA, .imp, 1, 2)]) ∧
    (RowsOf .dey [(0x88, .imp, 1, 2)]) ∧
    (∀ (s : State) (v : Byte), v = BitVec.ofNat 8 (s.x.toNat + 1) →
      exec .inx s = .next (completed .inx s { s with x := v, flags := zeroNegative s.flags v })) ∧
    (∀ (s : State) (v : Byte), v = BitVec.ofNat 8 (s.y.toNat + 1) →
      exec .iny s = .next (completed .iny s { s with y := v, flags := zeroNegative s.flags v })) ∧
    (∀ (s : State) (v : Byte), v = BitVec.ofInt 8 (s.x.toNat - 1) →
      exec .dex s = .next (completed .dex s { s with x := v, flags := zeroNegative s.flags v })) ∧
    (∀ (s : State) (v : Byte), v = BitVec.ofInt 8 (s.y.toNat - 1) →
      exec .dey s = .next (completed .dey s { s with y := v, flags := zeroNegative s.flags v }))

/-- O46. Shifts and rotates (46_shift.md R180 to R184). -/
def Obligations.ShiftEffects : Prop :=
  (RowsOf .asl [(0x0A, .acc, 1, 2), (0x06, .zp, 2, 5), (0x16, .zpx, 2, 6), (0x0E, .abs, 3, 6), (0x1E, .abx, 3, 7)]) ∧
    (RowsOf .lsr [(0x4A, .acc, 1, 2), (0x46, .zp, 2, 5), (0x56, .zpx, 2, 6), (0x4E, .abs, 3, 6), (0x5E, .abx, 3, 7)]) ∧
    (RowsOf .rol [(0x2A, .acc, 1, 2), (0x26, .zp, 2, 5), (0x36, .zpx, 2, 6), (0x2E, .abs, 3, 6), (0x3E, .abx, 3, 7)]) ∧
    (RowsOf .ror [(0x6A, .acc, 1, 2), (0x66, .zp, 2, 5), (0x76, .zpx, 2, 6), (0x6E, .abs, 3, 6), (0x7E, .abx, 3, 7)]) ∧
    (∀ (i : Instr) (s : State) (v : Byte), i.mnemonic = .asl →
      v = BitVec.ofNat 8 ((operandByte i s).toNat * 2 % 256) →
      (i.operand = .acc ∧ operandByte i s = s.a ∧ handlerAccesses i (s.pastInstr i.operand) = [] ∧
        exec i s = .next (completed i s
          { s with a := v, flags := { zeroNegative s.flags v with c := (operandByte i s).getLsbD 7 } })) ∨
      ∃ ea, address i s = some ea ∧ operandByte i s = s.load ea ∧
        handlerAccesses i (s.pastInstr i.operand) = [.fetch ea, .store ea] ∧
        exec i s = .next (completed i s
          { s with mem := s.mem.write ea v, flags := { zeroNegative s.flags v with c := (operandByte i s).getLsbD 7 } })) ∧
    (∀ (i : Instr) (s : State) (v : Byte), i.mnemonic = .lsr →
      v = BitVec.ofNat 8 ((operandByte i s).toNat / 2) →
      (i.operand = .acc ∧ operandByte i s = s.a ∧ handlerAccesses i (s.pastInstr i.operand) = [] ∧
        exec i s = .next (completed i s
          { s with a := v, flags := { zeroNegative s.flags v with c := (operandByte i s).getLsbD 0 } })) ∨
      ∃ ea, address i s = some ea ∧ operandByte i s = s.load ea ∧
        handlerAccesses i (s.pastInstr i.operand) = [.fetch ea, .store ea] ∧
        exec i s = .next (completed i s
          { s with mem := s.mem.write ea v, flags := { zeroNegative s.flags v with c := (operandByte i s).getLsbD 0 } })) ∧
    (∀ (i : Instr) (s : State) (v : Byte), i.mnemonic = .rol →
      v = BitVec.ofNat 8 ((operandByte i s).toNat * 2 % 256 + s.flags.c.toNat) →
      (i.operand = .acc ∧ operandByte i s = s.a ∧ handlerAccesses i (s.pastInstr i.operand) = [] ∧
        exec i s = .next (completed i s
          { s with a := v, flags := { zeroNegative s.flags v with c := (operandByte i s).getLsbD 7 } })) ∨
      ∃ ea, address i s = some ea ∧ operandByte i s = s.load ea ∧
        handlerAccesses i (s.pastInstr i.operand) = [.fetch ea, .store ea] ∧
        exec i s = .next (completed i s
          { s with mem := s.mem.write ea v, flags := { zeroNegative s.flags v with c := (operandByte i s).getLsbD 7 } })) ∧
    (∀ (i : Instr) (s : State) (v : Byte), i.mnemonic = .ror →
      v = BitVec.ofNat 8 ((operandByte i s).toNat / 2 + s.flags.c.toNat * 128) →
      (i.operand = .acc ∧ operandByte i s = s.a ∧ handlerAccesses i (s.pastInstr i.operand) = [] ∧
        exec i s = .next (completed i s
          { s with a := v, flags := { zeroNegative s.flags v with c := (operandByte i s).getLsbD 0 } })) ∨
      ∃ ea, address i s = some ea ∧ operandByte i s = s.load ea ∧
        handlerAccesses i (s.pastInstr i.operand) = [.fetch ea, .store ea] ∧
        exec i s = .next (completed i s
          { s with mem := s.mem.write ea v, flags := { zeroNegative s.flags v with c := (operandByte i s).getLsbD 0 } }))

/-- O47. JMP (47_jump.md R190), for either value of JMP_IND_PAGE_WRAP. -/
def Obligations.JumpEffect : Prop :=
  (RowsOf .jmp [(0x4C, .abs, 3, 3), (0x6C, .ind, 3, 5)]) ∧
    (∀ (w : Word) (s : State), exec (.jmpAbs w) s = .next { s with pc := w, cycleDebt := 2 } ∧
      handlerAccesses (.jmpAbs w) s = [] ∧ pointerReads (.abs w) s = []) ∧
    ∀ (w : Word) (s : State), exec (.jmpInd w) s = .next { s with
      pc := word (s.load (if lo8 w = 0xFF then (if Config.jmpIndPageWrap then word (hi8 w) 0x00 else w + 1) else w + 1))
        (s.load w)
      cycleDebt := 4 }

/-- O48. JSR (47_jump.md R191). -/
def Obligations.SubroutineCallEffect : Prop :=
  (RowsOf .jsr [(0x20, .abs, 3, 6)]) ∧
    ∀ (w : Word) (s : State), exec (.jsr w) s = .next { s with
      pc := w
      sp := s.sp - 2
      mem := (s.mem.write (stackAddr s.sp) (hi8 (s.pc + 2))).write (stackAddr (s.sp - 1)) (lo8 (s.pc + 2))
      cycleDebt := 5 }

/-- O49. RTS (47_jump.md R192). -/
def Obligations.SubroutineReturnEffect : Prop :=
  (RowsOf .rts [(0x60, .imp, 1, 6)]) ∧
    ∀ s : State, exec .rts s = .next { s with
      pc := BitVec.ofNat 16 (wordAt s (0x0100 + (s.sp.toNat + 1) % 256) (0x0100 + (s.sp.toNat + 2) % 256) + 1)
      sp := s.sp + 2
      cycleDebt := 5 }

/-- O50. JSR and RTS pair (47_jump.md R193). -/
def Obligations.ReturnFollowsCall : Prop :=
  ∀ (s : State) (w : Word), s.mem.wf = true → ∃ t u, exec (.jsr w) s = .next t ∧ exec .rts t = .next u ∧
    u.pc = s.pc + 3 ∧ u.sp = s.sp ∧ u.a = s.a ∧ u.x = s.x ∧ u.y = s.y ∧ u.flags = s.flags ∧
    ∀ a : Word, a ≠ stackAddr s.sp → a ≠ stackAddr (s.sp - 1) → u.load a = s.load a

/-- O51. Branches (48_branch.md R200 to R208). -/
def Obligations.BranchEffects : Prop :=
  (RowsOf .bcc [(0x90, .rel, 2, 2)]) ∧
    (RowsOf .bcs [(0xB0, .rel, 2, 2)]) ∧
    (RowsOf .beq [(0xF0, .rel, 2, 2)]) ∧
    (RowsOf .bne [(0xD0, .rel, 2, 2)]) ∧
    (RowsOf .bmi [(0x30, .rel, 2, 2)]) ∧
    (RowsOf .bpl [(0x10, .rel, 2, 2)]) ∧
    (RowsOf .bvc [(0x50, .rel, 2, 2)]) ∧
    (RowsOf .bvs [(0x70, .rel, 2, 2)]) ∧
    ∀ (b : Byte) (s : State) (i : Instr) (cond : Bool),
      (i, cond) ∈ [(Instr.bcc b, !s.flags.c), (.bcs b, s.flags.c), (.beq b, s.flags.z), (.bne b, !s.flags.z),
        (.bmi b, s.flags.n), (.bpl b, !s.flags.n), (.bvc b, !s.flags.v), (.bvs b, s.flags.v)] →
      exec i s = .next { s with
        pc := if cond then BitVec.ofInt 16 (s.pc.toNat + 2 + b.toInt) else s.pc + 2
        cycleDebt :=
          if cond then
            (if BitVec.ofInt 16 (s.pc.toNat + 2 + b.toInt) / 256 = (s.pc + 2) / 256 then 2 else 3)
          else 1 } ∧
      instrAccesses i s = [.fetch s.pc, .fetch (s.pc + 1)]

/-- O52. Flag instructions and NOP (49_flag_system.md R215 to R222). -/
def Obligations.FlagInstructionEffects : Prop :=
  (RowsOf .clc [(0x18, .imp, 1, 2)]) ∧
    (RowsOf .sec [(0x38, .imp, 1, 2)]) ∧
    (RowsOf .cli [(0x58, .imp, 1, 2)]) ∧
    (RowsOf .sei [(0x78, .imp, 1, 2)]) ∧
    (RowsOf .cld [(0xD8, .imp, 1, 2)]) ∧
    (RowsOf .sed [(0xF8, .imp, 1, 2)]) ∧
    (RowsOf .clv [(0xB8, .imp, 1, 2)]) ∧
    (RowsOf .nop [(0xEA, .imp, 1, 2)]) ∧
    (∀ s : State, exec .clc s = .next (completed .clc s { s with flags := { s.flags with c := false } })) ∧
    (∀ s : State, exec .sec s = .next (completed .sec s { s with flags := { s.flags with c := true } })) ∧
    (∀ s : State, exec .cli s = .next (completed .cli s { s with flags := { s.flags with i := false } })) ∧
    (∀ s : State, exec .sei s = .next (completed .sei s { s with flags := { s.flags with i := true } })) ∧
    (∀ s : State, exec .cld s = .next (completed .cld s { s with flags := { s.flags with d := false } })) ∧
    (∀ s : State, exec .sed s = .next (completed .sed s { s with flags := { s.flags with d := true } })) ∧
    (∀ s : State, exec .clv s = .next (completed .clv s { s with flags := { s.flags with v := false } })) ∧
    (∀ s : State, exec .nop s = .next (completed .nop s s) ∧ instrAccesses .nop s = [.fetch s.pc]) ∧
    ∀ s : State, s.jammed = false → s.irqLine = true → s.nmiPending = false →
      ∃ t u, exec .cli s = .next t ∧ Host.Core.run Sys2Proof.core 2 t = .next u ∧
        u.pc = word (u.load 0xFFFF) (u.load 0xFFFE) ∧ u.sp = s.sp - 3 ∧ u.flags.i = true

/-- O53. BRK (49_flag_system.md R223). -/
def Obligations.BreakEffect : Prop :=
  (RowsOf .brk [(0x00, .imp, 1, 7)]) ∧
    ∀ s : State, ∃ t image, exec .brk s = .next t ∧ image = s.flags.packP true ∧
      image.getLsbD 5 = true ∧ image.getLsbD 4 = true ∧ image.getLsbD 2 = s.flags.i ∧
      t = { s with
            sp := s.sp - 3
            flags := { s.flags with i := true }
            pc := word (t.mem.read 0xFFFF) (t.mem.read 0xFFFE)
            mem := ((s.mem.write (stackAddr s.sp) (hi8 (s.pc + 2))).write (stackAddr (s.sp - 1)) (lo8 (s.pc + 2))).write
              (stackAddr (s.sp - 2)) image
            cycleDebt := 6 } ∧
      instrAccesses .brk s = [.fetch s.pc, .store (stackAddr s.sp), .store (stackAddr (s.sp - 1)),
        .store (stackAddr (s.sp - 2)), .fetch 0xFFFE, .fetch 0xFFFF]

/-- O54. RTI (49_flag_system.md R224). -/
def Obligations.ReturnFromInterruptEffect : Prop :=
  (RowsOf .rti [(0x40, .imp, 1, 6)]) ∧
    (∀ (s : State) (v : Byte), v = s.load (BitVec.ofNat 16 (0x0100 + (s.sp.toNat + 1) % 256)) →
      exec .rti s = .next { s with
        flags := { n := v.getLsbD 7, v := v.getLsbD 6, b := s.flags.b, d := v.getLsbD 3, i := v.getLsbD 2,
                   z := v.getLsbD 1, c := v.getLsbD 0 }
        pc := BitVec.ofNat 16 (wordAt s (0x0100 + (s.sp.toNat + 2) % 256) (0x0100 + (s.sp.toNat + 3) % 256))
        sp := s.sp + 3
        cycleDebt := 5 }) ∧
    ∀ s : State, s.jammed = false → s.irqLine = true → s.nmiPending = false →
      (s.load (stackAddr (s.sp + 1))).getLsbD 2 = false →
      ∃ t u, exec .rti s = .next t ∧ Host.Core.run Sys2Proof.core 6 t = .next u ∧
        u.pc = word (u.load 0xFFFF) (u.load 0xFFFE) ∧ u.sp = s.sp ∧ u.flags.i = true

/-- O55. BRK and RTI pair (49_flag_system.md R223, R224). -/
def Obligations.ReturnFollowsBreak : Prop :=
  ∀ s : State, s.mem.wf = true → ∃ t u, exec .brk s = .next t ∧ exec .rti t = .next u ∧
    u.pc = s.pc + 2 ∧ u.sp = s.sp ∧ u.a = s.a ∧ u.x = s.x ∧ u.y = s.y ∧ u.flags = s.flags ∧
    ∀ a : Word, a ≠ stackAddr s.sp → a ≠ stackAddr (s.sp - 1) → a ≠ stackAddr (s.sp - 2) → u.load a = s.load a

/-- O56. Jam, the only fault (60_exceptions.md R246, 49_flag_system.md R229): a next state of the model (log 5). -/
def Obligations.IllegalOpcodeJams : Prop :=
  (∀ (op : Byte) (s : State), exec (.illegal op) s = .next { s with jammed := true, cycleDebt := 0 }) ∧
    ∀ s : State, s.FetchesNext → isIllegalOpcode (s.load s.pc) = true →
      tickAccesses s = [.fetch s.pc] ∧ s.boundary = true ∧
      (∀ k : Nat, Host.Core.run Sys2Proof.core (k + 1) s = .next { s with jammed := true, cycleDebt := 0 }) ∧
      ∀ (sp : Byte) (op : HostOp), ∃ t, op.apply sp { s with jammed := true, cycleDebt := 0 } = .next t ∧
        (t.jammed = false ↔ op = .reset)

/-- O57. Operand access (30_encoding.md R93): what `operandByte` is for every form, with the accesses beside those of the instruction bytes and the pointer. -/
def Obligations.OperandAccess : Prop :=
  ∀ (i : Instr) (s : State),
    (∀ b : Byte, i.operand = .imm b → Instr.cls i = .read ∧ operandByte i s = b ∧
      handlerAccesses i (s.pastInstr i.operand) = [] ∧ address i s = some (s.pc + 1) ∧
      (i = fetchInstr s.mem s.pc → s.load (s.pc + 1) = b)) ∧
    (i.operand = .acc → operandByte i s = s.a ∧ handlerAccesses i (s.pastInstr i.operand) = [] ∧
      ∃ t, exec i s = .next t ∧ t = completed i s { s with a := t.a, flags := t.flags }) ∧
    (Instr.cls i = .read → (∀ b : Byte, i.operand ≠ .imm b) → ∃ ea t, address i s = some ea ∧
      operandByte i s = s.load ea ∧ handlerAccesses i (s.pastInstr i.operand) = [.fetch ea] ∧
      exec i s = .next t ∧ t.mem = s.mem) ∧
    (Instr.cls i = .write → ∃ ea v t, address i s = some ea ∧
      handlerAccesses i (s.pastInstr i.operand) = [.store ea] ∧ exec i s = .next t ∧ t.mem = s.mem.write ea v) ∧
    (Instr.cls i = .rmw → ∃ ea v t, address i s = some ea ∧ operandByte i s = s.load ea ∧
      handlerAccesses i (s.pastInstr i.operand) = [.fetch ea, .store ea] ∧
      exec i s = .next t ∧ t.mem = s.mem.write ea v)
end

