-- ==== Sys2Proof/Laws/Bits.lean ====
section
/-! SUPPORT. Words and bytes in numbers (00_scope.md R11, R12), and where the stack page lies (10_state.md R24). -/

namespace Sys2Proof

theorem word_toNat (hi lo : Byte) : (word hi lo).toNat = hi.toNat * 256 + lo.toNat := by
  have hlo : lo.toNat < 2 ^ 8 := lo.isLt
  have h := BitVec.toNat_append hi lo
  rw [← Nat.shiftLeft_add_eq_or_of_lt hlo, Nat.shiftLeft_eq] at h
  simpa [word] using h

theorem lo8_toNat (w : Word) : (lo8 w).toNat = w.toNat % 256 := by
  simp [lo8, BitVec.extractLsb'_toNat]

theorem hi8_toNat (w : Word) : (hi8 w).toNat = w.toNat / 256 := by
  have : w.toNat < 65536 := w.isLt
  simp [hi8, BitVec.extractLsb'_toNat, Nat.shiftRight_eq_div_pow]
  omega

@[simp] theorem lo8_word (hi lo : Byte) : lo8 (word hi lo) = lo := by
  have := lo.isLt
  apply BitVec.eq_of_toNat_eq
  rw [lo8_toNat, word_toNat]
  omega

@[simp] theorem hi8_word (hi lo : Byte) : hi8 (word hi lo) = hi := by
  have := lo.isLt
  apply BitVec.eq_of_toNat_eq
  rw [hi8_toNat, word_toNat]
  omega

@[simp] theorem word_hi8_lo8 (w : Word) : word (hi8 w) (lo8 w) = w := by
  apply BitVec.eq_of_toNat_eq
  rw [word_toNat, hi8_toNat, lo8_toNat]
  omega

theorem zext16_toNat (b : Byte) : (zext16 b).toNat = b.toNat := by
  have := b.isLt
  simp [zext16]
  omega

theorem sext16_toInt (b : Byte) : (sext16 b).toInt = b.toInt := by
  simp [sext16, BitVec.toInt_signExtend]
  have h1 := BitVec.toInt_lt (x := b)
  have h2 := BitVec.le_toInt (x := b)
  rw [Int.bmod_eq_of_le] <;> simp at * <;> omega

namespace Machine

theorem stackAddr_toNat (sp : Byte) : (stackAddr sp).toNat = 256 + sp.toNat := by
  simp [stackAddr, word_toNat]

/-- The stack names a different address for each stack pointer. -/
@[simp] theorem stackAddr_inj (p q : Byte) : stackAddr p = stackAddr q ↔ p = q := by
  constructor
  · intro h
    have := congrArg BitVec.toNat h
    rw [stackAddr_toNat, stackAddr_toNat] at this
    exact BitVec.eq_of_toNat_eq (by omega)
  · rintro rfl
    rfl

/-- No stack address is a byte of a vector. -/
theorem stackAddr_ne_of_high (sp : Byte) (a : Word) (h : 512 ≤ a.toNat) : a ≠ stackAddr sp := by
  rintro rfl
  have := sp.isLt
  rw [stackAddr_toNat] at h
  omega

/-! The three stack pointers of an entry are different. -/

@[simp] theorem sub_one_ne (p : Byte) : p - 1#8 ≠ p := by bv_omega
@[simp] theorem ne_sub_one (p : Byte) : p ≠ p - 1#8 := by bv_omega
@[simp] theorem sub_two_ne (p : Byte) : p - 1#8 - 1#8 ≠ p := by bv_omega
@[simp] theorem ne_sub_two (p : Byte) : p ≠ p - 1#8 - 1#8 := by bv_omega

@[simp] theorem sub_add_one (p : Byte) : p - 1#8 + 1#8 = p := by bv_omega
@[simp] theorem add_sub_one (p : Byte) : p + 1#8 - 1#8 = p := by bv_omega

end Machine

end Sys2Proof
end

