-- ==== Sys2Proof/Laws/State.lean ====
section
/-! SUPPORT. One lemma per field per update of the state, true by rfl, so that no proof unfolds a record update. -/

namespace Sys2Proof.Machine

variable (s : State)

@[simp] theorem State.setA_a (v : Byte) : (s.setA v).a = v := rfl
@[simp] theorem State.setA_x (v : Byte) : (s.setA v).x = s.x := rfl
@[simp] theorem State.setA_y (v : Byte) : (s.setA v).y = s.y := rfl
@[simp] theorem State.setA_sp (v : Byte) : (s.setA v).sp = s.sp := rfl
@[simp] theorem State.setA_pc (v : Byte) : (s.setA v).pc = s.pc := rfl
@[simp] theorem State.setA_flags (v : Byte) : (s.setA v).flags = s.flags := rfl
@[simp] theorem State.setA_cycleDebt (v : Byte) : (s.setA v).cycleDebt = s.cycleDebt := rfl
@[simp] theorem State.setA_jammed (v : Byte) : (s.setA v).jammed = s.jammed := rfl
@[simp] theorem State.setA_nmiPending (v : Byte) : (s.setA v).nmiPending = s.nmiPending := rfl
@[simp] theorem State.setA_irqLine (v : Byte) : (s.setA v).irqLine = s.irqLine := rfl
@[simp] theorem State.setA_mem (v : Byte) : (s.setA v).mem = s.mem := rfl

@[simp] theorem State.setX_a (v : Byte) : (s.setX v).a = s.a := rfl
@[simp] theorem State.setX_x (v : Byte) : (s.setX v).x = v := rfl
@[simp] theorem State.setX_y (v : Byte) : (s.setX v).y = s.y := rfl
@[simp] theorem State.setX_sp (v : Byte) : (s.setX v).sp = s.sp := rfl
@[simp] theorem State.setX_pc (v : Byte) : (s.setX v).pc = s.pc := rfl
@[simp] theorem State.setX_flags (v : Byte) : (s.setX v).flags = s.flags := rfl
@[simp] theorem State.setX_cycleDebt (v : Byte) : (s.setX v).cycleDebt = s.cycleDebt := rfl
@[simp] theorem State.setX_jammed (v : Byte) : (s.setX v).jammed = s.jammed := rfl
@[simp] theorem State.setX_nmiPending (v : Byte) : (s.setX v).nmiPending = s.nmiPending := rfl
@[simp] theorem State.setX_irqLine (v : Byte) : (s.setX v).irqLine = s.irqLine := rfl
@[simp] theorem State.setX_mem (v : Byte) : (s.setX v).mem = s.mem := rfl

@[simp] theorem State.setY_a (v : Byte) : (s.setY v).a = s.a := rfl
@[simp] theorem State.setY_x (v : Byte) : (s.setY v).x = s.x := rfl
@[simp] theorem State.setY_y (v : Byte) : (s.setY v).y = v := rfl
@[simp] theorem State.setY_sp (v : Byte) : (s.setY v).sp = s.sp := rfl
@[simp] theorem State.setY_pc (v : Byte) : (s.setY v).pc = s.pc := rfl
@[simp] theorem State.setY_flags (v : Byte) : (s.setY v).flags = s.flags := rfl
@[simp] theorem State.setY_cycleDebt (v : Byte) : (s.setY v).cycleDebt = s.cycleDebt := rfl
@[simp] theorem State.setY_jammed (v : Byte) : (s.setY v).jammed = s.jammed := rfl
@[simp] theorem State.setY_nmiPending (v : Byte) : (s.setY v).nmiPending = s.nmiPending := rfl
@[simp] theorem State.setY_irqLine (v : Byte) : (s.setY v).irqLine = s.irqLine := rfl
@[simp] theorem State.setY_mem (v : Byte) : (s.setY v).mem = s.mem := rfl

@[simp] theorem State.setSp_a (v : Byte) : (s.setSp v).a = s.a := rfl
@[simp] theorem State.setSp_x (v : Byte) : (s.setSp v).x = s.x := rfl
@[simp] theorem State.setSp_y (v : Byte) : (s.setSp v).y = s.y := rfl
@[simp] theorem State.setSp_sp (v : Byte) : (s.setSp v).sp = v := rfl
@[simp] theorem State.setSp_pc (v : Byte) : (s.setSp v).pc = s.pc := rfl
@[simp] theorem State.setSp_flags (v : Byte) : (s.setSp v).flags = s.flags := rfl
@[simp] theorem State.setSp_cycleDebt (v : Byte) : (s.setSp v).cycleDebt = s.cycleDebt := rfl
@[simp] theorem State.setSp_jammed (v : Byte) : (s.setSp v).jammed = s.jammed := rfl
@[simp] theorem State.setSp_nmiPending (v : Byte) : (s.setSp v).nmiPending = s.nmiPending := rfl
@[simp] theorem State.setSp_irqLine (v : Byte) : (s.setSp v).irqLine = s.irqLine := rfl
@[simp] theorem State.setSp_mem (v : Byte) : (s.setSp v).mem = s.mem := rfl

@[simp] theorem State.setPc_a (w : Word) : (s.setPc w).a = s.a := rfl
@[simp] theorem State.setPc_x (w : Word) : (s.setPc w).x = s.x := rfl
@[simp] theorem State.setPc_y (w : Word) : (s.setPc w).y = s.y := rfl
@[simp] theorem State.setPc_sp (w : Word) : (s.setPc w).sp = s.sp := rfl
@[simp] theorem State.setPc_pc (w : Word) : (s.setPc w).pc = w := rfl
@[simp] theorem State.setPc_flags (w : Word) : (s.setPc w).flags = s.flags := rfl
@[simp] theorem State.setPc_cycleDebt (w : Word) : (s.setPc w).cycleDebt = s.cycleDebt := rfl
@[simp] theorem State.setPc_jammed (w : Word) : (s.setPc w).jammed = s.jammed := rfl
@[simp] theorem State.setPc_nmiPending (w : Word) : (s.setPc w).nmiPending = s.nmiPending := rfl
@[simp] theorem State.setPc_irqLine (w : Word) : (s.setPc w).irqLine = s.irqLine := rfl
@[simp] theorem State.setPc_mem (w : Word) : (s.setPc w).mem = s.mem := rfl

@[simp] theorem State.setFlags_a (f : Flags) : (s.setFlags f).a = s.a := rfl
@[simp] theorem State.setFlags_x (f : Flags) : (s.setFlags f).x = s.x := rfl
@[simp] theorem State.setFlags_y (f : Flags) : (s.setFlags f).y = s.y := rfl
@[simp] theorem State.setFlags_sp (f : Flags) : (s.setFlags f).sp = s.sp := rfl
@[simp] theorem State.setFlags_pc (f : Flags) : (s.setFlags f).pc = s.pc := rfl
@[simp] theorem State.setFlags_flags (f : Flags) : (s.setFlags f).flags = f := rfl
@[simp] theorem State.setFlags_cycleDebt (f : Flags) : (s.setFlags f).cycleDebt = s.cycleDebt := rfl
@[simp] theorem State.setFlags_jammed (f : Flags) : (s.setFlags f).jammed = s.jammed := rfl
@[simp] theorem State.setFlags_nmiPending (f : Flags) : (s.setFlags f).nmiPending = s.nmiPending := rfl
@[simp] theorem State.setFlags_irqLine (f : Flags) : (s.setFlags f).irqLine = s.irqLine := rfl
@[simp] theorem State.setFlags_mem (f : Flags) : (s.setFlags f).mem = s.mem := rfl

@[simp] theorem State.setDebt_a (n : Nat) : (s.setDebt n).a = s.a := rfl
@[simp] theorem State.setDebt_x (n : Nat) : (s.setDebt n).x = s.x := rfl
@[simp] theorem State.setDebt_y (n : Nat) : (s.setDebt n).y = s.y := rfl
@[simp] theorem State.setDebt_sp (n : Nat) : (s.setDebt n).sp = s.sp := rfl
@[simp] theorem State.setDebt_pc (n : Nat) : (s.setDebt n).pc = s.pc := rfl
@[simp] theorem State.setDebt_flags (n : Nat) : (s.setDebt n).flags = s.flags := rfl
@[simp] theorem State.setDebt_cycleDebt (n : Nat) : (s.setDebt n).cycleDebt = n := rfl
@[simp] theorem State.setDebt_jammed (n : Nat) : (s.setDebt n).jammed = s.jammed := rfl
@[simp] theorem State.setDebt_nmiPending (n : Nat) : (s.setDebt n).nmiPending = s.nmiPending := rfl
@[simp] theorem State.setDebt_irqLine (n : Nat) : (s.setDebt n).irqLine = s.irqLine := rfl
@[simp] theorem State.setDebt_mem (n : Nat) : (s.setDebt n).mem = s.mem := rfl

@[simp] theorem State.store_a (a : Word) (v : Byte) : (s.store a v).a = s.a := rfl
@[simp] theorem State.store_x (a : Word) (v : Byte) : (s.store a v).x = s.x := rfl
@[simp] theorem State.store_y (a : Word) (v : Byte) : (s.store a v).y = s.y := rfl
@[simp] theorem State.store_sp (a : Word) (v : Byte) : (s.store a v).sp = s.sp := rfl
@[simp] theorem State.store_pc (a : Word) (v : Byte) : (s.store a v).pc = s.pc := rfl
@[simp] theorem State.store_flags (a : Word) (v : Byte) : (s.store a v).flags = s.flags := rfl
@[simp] theorem State.store_cycleDebt (a : Word) (v : Byte) : (s.store a v).cycleDebt = s.cycleDebt := rfl
@[simp] theorem State.store_jammed (a : Word) (v : Byte) : (s.store a v).jammed = s.jammed := rfl
@[simp] theorem State.store_nmiPending (a : Word) (v : Byte) : (s.store a v).nmiPending = s.nmiPending := rfl
@[simp] theorem State.store_irqLine (a : Word) (v : Byte) : (s.store a v).irqLine = s.irqLine := rfl
@[simp] theorem State.store_mem (a : Word) (v : Byte) : (s.store a v).mem = s.mem.write a v := rfl

@[simp] theorem State.setZN_a (v : Byte) : (s.setZN v).a = s.a := rfl
@[simp] theorem State.setZN_x (v : Byte) : (s.setZN v).x = s.x := rfl
@[simp] theorem State.setZN_y (v : Byte) : (s.setZN v).y = s.y := rfl
@[simp] theorem State.setZN_sp (v : Byte) : (s.setZN v).sp = s.sp := rfl
@[simp] theorem State.setZN_pc (v : Byte) : (s.setZN v).pc = s.pc := rfl
@[simp] theorem State.setZN_flags (v : Byte) : (s.setZN v).flags = s.flags.setZN v := rfl
@[simp] theorem State.setZN_cycleDebt (v : Byte) : (s.setZN v).cycleDebt = s.cycleDebt := rfl
@[simp] theorem State.setZN_jammed (v : Byte) : (s.setZN v).jammed = s.jammed := rfl
@[simp] theorem State.setZN_nmiPending (v : Byte) : (s.setZN v).nmiPending = s.nmiPending := rfl
@[simp] theorem State.setZN_irqLine (v : Byte) : (s.setZN v).irqLine = s.irqLine := rfl
@[simp] theorem State.setZN_mem (v : Byte) : (s.setZN v).mem = s.mem := rfl

@[simp] theorem State.push8_a (v : Byte) : (s.push8 v).a = s.a := rfl
@[simp] theorem State.push8_x (v : Byte) : (s.push8 v).x = s.x := rfl
@[simp] theorem State.push8_y (v : Byte) : (s.push8 v).y = s.y := rfl
@[simp] theorem State.push8_sp (v : Byte) : (s.push8 v).sp = s.sp - 1 := rfl
@[simp] theorem State.push8_pc (v : Byte) : (s.push8 v).pc = s.pc := rfl
@[simp] theorem State.push8_flags (v : Byte) : (s.push8 v).flags = s.flags := rfl
@[simp] theorem State.push8_cycleDebt (v : Byte) : (s.push8 v).cycleDebt = s.cycleDebt := rfl
@[simp] theorem State.push8_jammed (v : Byte) : (s.push8 v).jammed = s.jammed := rfl
@[simp] theorem State.push8_nmiPending (v : Byte) : (s.push8 v).nmiPending = s.nmiPending := rfl
@[simp] theorem State.push8_irqLine (v : Byte) : (s.push8 v).irqLine = s.irqLine := rfl
@[simp] theorem State.push8_mem (v : Byte) : (s.push8 v).mem = s.mem.write (stackAddr s.sp) v := rfl

@[simp] theorem State.pull8_a : (s.pull8).a = s.a := rfl
@[simp] theorem State.pull8_x : (s.pull8).x = s.x := rfl
@[simp] theorem State.pull8_y : (s.pull8).y = s.y := rfl
@[simp] theorem State.pull8_sp : (s.pull8).sp = s.sp + 1 := rfl
@[simp] theorem State.pull8_pc : (s.pull8).pc = s.pc := rfl
@[simp] theorem State.pull8_flags : (s.pull8).flags = s.flags := rfl
@[simp] theorem State.pull8_cycleDebt : (s.pull8).cycleDebt = s.cycleDebt := rfl
@[simp] theorem State.pull8_jammed : (s.pull8).jammed = s.jammed := rfl
@[simp] theorem State.pull8_nmiPending : (s.pull8).nmiPending = s.nmiPending := rfl
@[simp] theorem State.pull8_irqLine : (s.pull8).irqLine = s.irqLine := rfl
@[simp] theorem State.pull8_mem : (s.pull8).mem = s.mem := rfl

@[simp] theorem State.pushWord_a (w : Word) : (s.pushWord w).a = s.a := rfl
@[simp] theorem State.pushWord_x (w : Word) : (s.pushWord w).x = s.x := rfl
@[simp] theorem State.pushWord_y (w : Word) : (s.pushWord w).y = s.y := rfl
@[simp] theorem State.pushWord_sp (w : Word) : (s.pushWord w).sp = s.sp - 1 - 1 := rfl
@[simp] theorem State.pushWord_pc (w : Word) : (s.pushWord w).pc = s.pc := rfl
@[simp] theorem State.pushWord_flags (w : Word) : (s.pushWord w).flags = s.flags := rfl
@[simp] theorem State.pushWord_cycleDebt (w : Word) : (s.pushWord w).cycleDebt = s.cycleDebt := rfl
@[simp] theorem State.pushWord_jammed (w : Word) : (s.pushWord w).jammed = s.jammed := rfl
@[simp] theorem State.pushWord_nmiPending (w : Word) : (s.pushWord w).nmiPending = s.nmiPending := rfl
@[simp] theorem State.pushWord_irqLine (w : Word) : (s.pushWord w).irqLine = s.irqLine := rfl
@[simp] theorem State.pushWord_mem (w : Word) : (s.pushWord w).mem = (s.mem.write (stackAddr s.sp) (hi8 w)).write (stackAddr (s.sp - 1)) (lo8 w) := rfl

@[simp] theorem State.pullWord_a : (s.pullWord).a = s.a := rfl
@[simp] theorem State.pullWord_x : (s.pullWord).x = s.x := rfl
@[simp] theorem State.pullWord_y : (s.pullWord).y = s.y := rfl
@[simp] theorem State.pullWord_sp : (s.pullWord).sp = s.sp + 1 + 1 := rfl
@[simp] theorem State.pullWord_pc : (s.pullWord).pc = s.pc := rfl
@[simp] theorem State.pullWord_flags : (s.pullWord).flags = s.flags := rfl
@[simp] theorem State.pullWord_cycleDebt : (s.pullWord).cycleDebt = s.cycleDebt := rfl
@[simp] theorem State.pullWord_jammed : (s.pullWord).jammed = s.jammed := rfl
@[simp] theorem State.pullWord_nmiPending : (s.pullWord).nmiPending = s.nmiPending := rfl
@[simp] theorem State.pullWord_irqLine : (s.pullWord).irqLine = s.irqLine := rfl
@[simp] theorem State.pullWord_mem : (s.pullWord).mem = s.mem := rfl

@[simp] theorem State.jam_a : (s.jam).a = s.a := rfl
@[simp] theorem State.jam_x : (s.jam).x = s.x := rfl
@[simp] theorem State.jam_y : (s.jam).y = s.y := rfl
@[simp] theorem State.jam_sp : (s.jam).sp = s.sp := rfl
@[simp] theorem State.jam_pc : (s.jam).pc = s.pc := rfl
@[simp] theorem State.jam_flags : (s.jam).flags = s.flags := rfl
@[simp] theorem State.jam_cycleDebt : (s.jam).cycleDebt = 0 := rfl
@[simp] theorem State.jam_jammed : (s.jam).jammed = true := rfl
@[simp] theorem State.jam_nmiPending : (s.jam).nmiPending = s.nmiPending := rfl
@[simp] theorem State.jam_irqLine : (s.jam).irqLine = s.irqLine := rfl
@[simp] theorem State.jam_mem : (s.jam).mem = s.mem := rfl

@[simp] theorem State.countDown_a : (s.countDown).a = s.a := rfl
@[simp] theorem State.countDown_x : (s.countDown).x = s.x := rfl
@[simp] theorem State.countDown_y : (s.countDown).y = s.y := rfl
@[simp] theorem State.countDown_sp : (s.countDown).sp = s.sp := rfl
@[simp] theorem State.countDown_pc : (s.countDown).pc = s.pc := rfl
@[simp] theorem State.countDown_flags : (s.countDown).flags = s.flags := rfl
@[simp] theorem State.countDown_cycleDebt : (s.countDown).cycleDebt = s.cycleDebt - 1 := rfl
@[simp] theorem State.countDown_jammed : (s.countDown).jammed = s.jammed := rfl
@[simp] theorem State.countDown_nmiPending : (s.countDown).nmiPending = s.nmiPending := rfl
@[simp] theorem State.countDown_irqLine : (s.countDown).irqLine = s.irqLine := rfl
@[simp] theorem State.countDown_mem : (s.countDown).mem = s.mem := rfl

@[simp] theorem State.pastInstr_a (o : Operand) : (s.pastInstr o).a = s.a := rfl
@[simp] theorem State.pastInstr_x (o : Operand) : (s.pastInstr o).x = s.x := rfl
@[simp] theorem State.pastInstr_y (o : Operand) : (s.pastInstr o).y = s.y := rfl
@[simp] theorem State.pastInstr_sp (o : Operand) : (s.pastInstr o).sp = s.sp := rfl
@[simp] theorem State.pastInstr_pc (o : Operand) : (s.pastInstr o).pc = s.pc + BitVec.ofNat 16 (1 + o.mode.operandBytes) := rfl
@[simp] theorem State.pastInstr_flags (o : Operand) : (s.pastInstr o).flags = s.flags := rfl
@[simp] theorem State.pastInstr_cycleDebt (o : Operand) : (s.pastInstr o).cycleDebt = s.cycleDebt := rfl
@[simp] theorem State.pastInstr_jammed (o : Operand) : (s.pastInstr o).jammed = s.jammed := rfl
@[simp] theorem State.pastInstr_nmiPending (o : Operand) : (s.pastInstr o).nmiPending = s.nmiPending := rfl
@[simp] theorem State.pastInstr_irqLine (o : Operand) : (s.pastInstr o).irqLine = s.irqLine := rfl
@[simp] theorem State.pastInstr_mem (o : Operand) : (s.pastInstr o).mem = s.mem := rfl

/-- Reading memory depends on the memory alone. -/
@[simp] theorem State.load_eq (a : Word) : s.load a = s.mem.read a := rfl

@[simp] theorem State.readVector_eq (a : Word) : s.readVector a = s.mem.readWord a := rfl

@[simp] theorem State.pulled8_eq : s.pulled8 = s.mem.read (stackAddr (s.sp + 1)) := rfl

@[simp] theorem State.pulledWord_eq :
    s.pulledWord = word (s.mem.read (stackAddr (s.sp + 1 + 1))) (s.mem.read (stackAddr (s.sp + 1))) := rfl

/-! Two updates of one field, and the update that changes nothing. -/

@[simp] theorem State.setPc_setPc (w w' : Word) : (s.setPc w).setPc w' = s.setPc w' := rfl

@[simp] theorem State.setDebt_setDebt (n n' : Nat) : (s.setDebt n).setDebt n' = s.setDebt n' := rfl

@[simp] theorem State.setFlags_setFlags (f f' : Flags) : (s.setFlags f).setFlags f' = s.setFlags f' := rfl

/-- Two states with equal fields are equal. -/
theorem State.ext_fields {s t : State} (ha : s.a = t.a) (hx : s.x = t.x) (hy : s.y = t.y) (hsp : s.sp = t.sp)
    (hpc : s.pc = t.pc) (hf : s.flags = t.flags) (hd : s.cycleDebt = t.cycleDebt) (hj : s.jammed = t.jammed)
    (hn : s.nmiPending = t.nmiPending) (hi : s.irqLine = t.irqLine) (hm : s.mem = t.mem) : s = t := by
  cases s; cases t; simp_all

/-- The memory after an entry: the return address, high byte first, then the status image (60_exceptions.md R252). -/
def entryMemory (s : State) (returnPc : Word) (b4 : Bool) : Memory :=
  ((s.mem.write (stackAddr s.sp) (hi8 returnPc)).write (stackAddr (s.sp - 1)) (lo8 returnPc)).write
    (stackAddr (s.sp - 1 - 1)) (s.flags.packP b4)

@[simp] theorem State.enterVector_a (vector returnPc : Word) (b4 : Bool) : (s.enterVector vector returnPc b4).a = s.a := by
  simp [State.enterVector]
@[simp] theorem State.enterVector_x (vector returnPc : Word) (b4 : Bool) : (s.enterVector vector returnPc b4).x = s.x := by
  simp [State.enterVector]
@[simp] theorem State.enterVector_y (vector returnPc : Word) (b4 : Bool) : (s.enterVector vector returnPc b4).y = s.y := by
  simp [State.enterVector]
@[simp] theorem State.enterVector_sp (vector returnPc : Word) (b4 : Bool) : (s.enterVector vector returnPc b4).sp = s.sp - 1 - 1 - 1 := by
  simp [State.enterVector]
@[simp] theorem State.enterVector_pc (vector returnPc : Word) (b4 : Bool) : (s.enterVector vector returnPc b4).pc = (entryMemory s returnPc b4).readWord vector := by
  simp [State.enterVector, entryMemory]
@[simp] theorem State.enterVector_flags (vector returnPc : Word) (b4 : Bool) : (s.enterVector vector returnPc b4).flags = { s.flags with i := true } := by
  simp [State.enterVector]
@[simp] theorem State.enterVector_cycleDebt (vector returnPc : Word) (b4 : Bool) : (s.enterVector vector returnPc b4).cycleDebt = s.cycleDebt := by
  simp [State.enterVector]
@[simp] theorem State.enterVector_jammed (vector returnPc : Word) (b4 : Bool) : (s.enterVector vector returnPc b4).jammed = s.jammed := by
  simp [State.enterVector]
@[simp] theorem State.enterVector_nmiPending (vector returnPc : Word) (b4 : Bool) : (s.enterVector vector returnPc b4).nmiPending = s.nmiPending := by
  simp [State.enterVector]
@[simp] theorem State.enterVector_irqLine (vector returnPc : Word) (b4 : Bool) : (s.enterVector vector returnPc b4).irqLine = s.irqLine := by
  simp [State.enterVector]
@[simp] theorem State.enterVector_mem (vector returnPc : Word) (b4 : Bool) : (s.enterVector vector returnPc b4).mem = entryMemory s returnPc b4 := by
  simp [State.enterVector, entryMemory]

@[simp] theorem State.interrupt_a (vector : Word) : (s.interrupt vector).a = s.a := by
  simp [State.interrupt]
@[simp] theorem State.interrupt_x (vector : Word) : (s.interrupt vector).x = s.x := by
  simp [State.interrupt]
@[simp] theorem State.interrupt_y (vector : Word) : (s.interrupt vector).y = s.y := by
  simp [State.interrupt]
@[simp] theorem State.interrupt_sp (vector : Word) : (s.interrupt vector).sp = s.sp - 1 - 1 - 1 := by
  simp [State.interrupt]
@[simp] theorem State.interrupt_pc (vector : Word) : (s.interrupt vector).pc = (entryMemory s s.pc false).readWord vector := by
  simp [State.interrupt]
@[simp] theorem State.interrupt_flags (vector : Word) : (s.interrupt vector).flags = { s.flags with i := true } := by
  simp [State.interrupt]
@[simp] theorem State.interrupt_cycleDebt (vector : Word) : (s.interrupt vector).cycleDebt = 6 := by
  simp [State.interrupt]
@[simp] theorem State.interrupt_jammed (vector : Word) : (s.interrupt vector).jammed = s.jammed := by
  simp [State.interrupt]
@[simp] theorem State.interrupt_nmiPending (vector : Word) : (s.interrupt vector).nmiPending = s.nmiPending := by
  simp [State.interrupt]
@[simp] theorem State.interrupt_irqLine (vector : Word) : (s.interrupt vector).irqLine = s.irqLine := by
  simp [State.interrupt]
@[simp] theorem State.interrupt_mem (vector : Word) : (s.interrupt vector).mem = entryMemory s s.pc false := by
  simp [State.interrupt]

@[simp] theorem State.takeNmi_a : (s.takeNmi).a = s.a := by
  simp [State.takeNmi]
@[simp] theorem State.takeNmi_x : (s.takeNmi).x = s.x := by
  simp [State.takeNmi]
@[simp] theorem State.takeNmi_y : (s.takeNmi).y = s.y := by
  simp [State.takeNmi]
@[simp] theorem State.takeNmi_sp : (s.takeNmi).sp = s.sp - 1 - 1 - 1 := by
  simp [State.takeNmi]
@[simp] theorem State.takeNmi_pc : (s.takeNmi).pc = (entryMemory s s.pc false).readWord nmiVector := by
  simp [State.takeNmi, entryMemory]
@[simp] theorem State.takeNmi_flags : (s.takeNmi).flags = { s.flags with i := true } := by
  simp [State.takeNmi]
@[simp] theorem State.takeNmi_cycleDebt : (s.takeNmi).cycleDebt = 6 := by
  simp [State.takeNmi]
@[simp] theorem State.takeNmi_jammed : (s.takeNmi).jammed = s.jammed := by
  simp [State.takeNmi]
@[simp] theorem State.takeNmi_nmiPending : (s.takeNmi).nmiPending = false := by
  simp [State.takeNmi]
@[simp] theorem State.takeNmi_irqLine : (s.takeNmi).irqLine = s.irqLine := by
  simp [State.takeNmi]
@[simp] theorem State.takeNmi_mem : (s.takeNmi).mem = entryMemory s s.pc false := by
  simp [State.takeNmi, entryMemory]

@[simp] theorem State.takeIrq_a : (s.takeIrq).a = s.a := by
  simp [State.takeIrq]
@[simp] theorem State.takeIrq_x : (s.takeIrq).x = s.x := by
  simp [State.takeIrq]
@[simp] theorem State.takeIrq_y : (s.takeIrq).y = s.y := by
  simp [State.takeIrq]
@[simp] theorem State.takeIrq_sp : (s.takeIrq).sp = s.sp - 1 - 1 - 1 := by
  simp [State.takeIrq]
@[simp] theorem State.takeIrq_pc : (s.takeIrq).pc = (entryMemory s s.pc false).readWord irqVector := by
  simp [State.takeIrq]
@[simp] theorem State.takeIrq_flags : (s.takeIrq).flags = { s.flags with i := true } := by
  simp [State.takeIrq]
@[simp] theorem State.takeIrq_cycleDebt : (s.takeIrq).cycleDebt = 6 := by
  simp [State.takeIrq]
@[simp] theorem State.takeIrq_jammed : (s.takeIrq).jammed = s.jammed := by
  simp [State.takeIrq]
@[simp] theorem State.takeIrq_nmiPending : (s.takeIrq).nmiPending = s.nmiPending := by
  simp [State.takeIrq]
@[simp] theorem State.takeIrq_irqLine : (s.takeIrq).irqLine = s.irqLine := by
  simp [State.takeIrq]
@[simp] theorem State.takeIrq_mem : (s.takeIrq).mem = entryMemory s s.pc false := by
  simp [State.takeIrq]
@[simp] theorem State.returnFromInterrupt_a : (s.returnFromInterrupt).a = s.a := by
  simp [State.returnFromInterrupt]
@[simp] theorem State.returnFromInterrupt_x : (s.returnFromInterrupt).x = s.x := by
  simp [State.returnFromInterrupt]
@[simp] theorem State.returnFromInterrupt_y : (s.returnFromInterrupt).y = s.y := by
  simp [State.returnFromInterrupt]
@[simp] theorem State.returnFromInterrupt_sp : (s.returnFromInterrupt).sp = s.sp + 1 + 1 + 1 := by
  simp [State.returnFromInterrupt]
@[simp] theorem State.returnFromInterrupt_pc : (s.returnFromInterrupt).pc = word (s.mem.read (stackAddr (s.sp + 1 + 1 + 1))) (s.mem.read (stackAddr (s.sp + 1 + 1))) := by
  simp [State.returnFromInterrupt]
@[simp] theorem State.returnFromInterrupt_flags : (s.returnFromInterrupt).flags = s.flags.unpackP (s.mem.read (stackAddr (s.sp + 1))) := by
  simp [State.returnFromInterrupt]
@[simp] theorem State.returnFromInterrupt_cycleDebt : (s.returnFromInterrupt).cycleDebt = s.cycleDebt := by
  simp [State.returnFromInterrupt]
@[simp] theorem State.returnFromInterrupt_jammed : (s.returnFromInterrupt).jammed = s.jammed := by
  simp [State.returnFromInterrupt]
@[simp] theorem State.returnFromInterrupt_nmiPending : (s.returnFromInterrupt).nmiPending = s.nmiPending := by
  simp [State.returnFromInterrupt]
@[simp] theorem State.returnFromInterrupt_irqLine : (s.returnFromInterrupt).irqLine = s.irqLine := by
  simp [State.returnFromInterrupt]
@[simp] theorem State.returnFromInterrupt_mem : (s.returnFromInterrupt).mem = s.mem := by
  simp [State.returnFromInterrupt]

end Sys2Proof.Machine
end

