-- ==== Sys2Proof/Laws/Exec.lean ====
section
/-! SUPPORT. What an instruction does, said once: every assigned instruction runs the handler of its mnemonic on its operand
with the base count of R97, and an illegal opcode jams. -/

namespace Sys2Proof.Machine

/-- The handler of a mnemonic. -/
def handlerOf : Mnemonic → Handler
  | .lda => ldaHandler
  | .ldx => ldxHandler
  | .ldy => ldyHandler
  | .sta => staHandler
  | .stx => stxHandler
  | .sty => styHandler
  | .tax => taxHandler
  | .tay => tayHandler
  | .txa => txaHandler
  | .tya => tyaHandler
  | .tsx => tsxHandler
  | .txs => txsHandler
  | .pha => phaHandler
  | .php => phpHandler
  | .pla => plaHandler
  | .plp => plpHandler
  | .and => andHandler
  | .ora => oraHandler
  | .eor => eorHandler
  | .bit => bitHandler
  | .adc => adcHandler
  | .sbc => sbcHandler
  | .cmp => cmpHandler
  | .cpx => cpxHandler
  | .cpy => cpyHandler
  | .inc => incHandler
  | .dec => decHandler
  | .inx => inxHandler
  | .iny => inyHandler
  | .dex => dexHandler
  | .dey => deyHandler
  | .asl => aslHandler
  | .lsr => lsrHandler
  | .rol => rolHandler
  | .ror => rorHandler
  | .jmp => jmpHandler
  | .jsr => jsrHandler
  | .rts => rtsHandler
  | .bcc => bccHandler
  | .bcs => bcsHandler
  | .beq => beqHandler
  | .bne => bneHandler
  | .bmi => bmiHandler
  | .bpl => bplHandler
  | .bvc => bvcHandler
  | .bvs => bvsHandler
  | .clc => clcHandler
  | .sec => secHandler
  | .cli => cliHandler
  | .sei => seiHandler
  | .cld => cldHandler
  | .sed => sedHandler
  | .clv => clvHandler
  | .nop => nopHandler
  | .brk => brkHandler
  | .rti => rtiHandler
  | .illegal => noExtra fun _ s => s

/-- Every assigned instruction: its handler, its operand, its base count. -/
theorem exec_eq_run (i : Instr) (s : State) (h : i.mnemonic ≠ .illegal) :
    exec i s = run (baseCycles i.mnemonic i.operand.mode) i.operand (handlerOf i.mnemonic) s := by
  cases i <;> first | rfl | exact absurd rfl h

/-- Where a branch goes (48_branch.md R200). -/
theorem branch_fst (cond : Flags → Bool) (o : Operand) (s : State) :
    (branch cond o s).1 = if cond s.flags then jumpTo o s else s := by
  unfold branch; split <;> rfl

/-- What a branch costs beside its base (48_branch.md R200). -/
theorem branch_snd (cond : Flags → Bool) (o : Operand) (s : State) :
    (branch cond o s).2 = if cond s.flags then (if (resolve o s).crossed then 2 else 1) else 0 := by
  unfold branch; split <;> rfl

/-- An illegal opcode: jammed, no cycle owed, PC still at the illegal byte (49_flag_system.md R229). -/
theorem exec_illegal (op : Byte) (s : State) :
    exec (.illegal op) s = .next { s with jammed := true, cycleDebt := 0 } := by
  have hpc : s.pc + 1#16 - 1#16 = s.pc := by bv_omega
  simp [exec, execIllegal, State.jam, State.setPc, State.pastInstr, Operand.mode, Mode.operandBytes, hpc]

/-- The illegal mnemonic is the illegal constructor's. -/
theorem mnemonic_illegal (i : Instr) (h : i.mnemonic = .illegal) : ∃ op, i = .illegal op := by
  cases i <;> first | exact ⟨_, rfl⟩ | exact absurd h (by simp [Instr.mnemonic])

/-- Every instruction answers a next state. -/
theorem exec_next (i : Instr) (s : State) : ∃ t, exec i s = .next t := by
  by_cases h : i.mnemonic = .illegal
  · obtain ⟨op, rfl⟩ := mnemonic_illegal i h
    exact ⟨_, exec_illegal op s⟩
  · exact ⟨_, exec_eq_run i s h⟩

/-- What the next state of an assigned instruction is. -/
theorem exec_inversion {i : Instr} {s t : State} (h : i.mnemonic ≠ .illegal) (ht : exec i s = .next t) :
    t = ((handlerOf i.mnemonic i.operand (s.pastInstr i.operand)).1.setDebt
      (baseCycles i.mnemonic i.operand.mode + (handlerOf i.mnemonic i.operand (s.pastInstr i.operand)).2 - 1)) := by
  rw [exec_eq_run i s h] at ht
  simpa [run] using ht.symm

end Sys2Proof.Machine
end

