-- ==== Sys2Proof/Laws/Memory.lean ====
section
/-! SUPPORT. Everything the Bus does (20_memory.md R51): read after write, the other addresses, the canonical form. -/

namespace Sys2Proof.Machine

theorem Memory.lookup_cell_append (m : Memory) (a b : Nat) (v : Byte) (h : b ≠ a) :
    Memory.lookup (Memory.cell a v ++ m) b = Memory.lookup m b := by
  unfold Memory.cell
  split
  · rfl
  · simp [Memory.lookup, Ne.symm h]

/-- A put leaves every other address alone, whatever the list. -/
theorem Memory.lookup_put_ne (m : Memory) (a b : Nat) (v : Byte) (h : b ≠ a) :
    (m.put a v).lookup b = m.lookup b := by
  induction m with
  | nil => simpa [Memory.put] using Memory.lookup_cell_append [] a b v h
  | cons p rest ih =>
    obtain ⟨k, w⟩ := p
    simp only [Memory.put]
    split
    · exact Memory.lookup_cell_append _ a b v h
    · split
      · next hk =>
        subst hk
        rw [Memory.lookup_cell_append _ a b v h]
        simp [Memory.lookup, Ne.symm h]
      · simp only [Memory.lookup, ih]

/-- Below the lowest listed address everything reads as the fill. -/
theorem Memory.lookup_below (m : Memory) (low a : Nat) (hw : m.wfFrom low = true) (h : a < low) :
    m.lookup a = Memory.unlisted := by
  induction m generalizing low with
  | nil => rfl
  | cons p rest ih =>
    obtain ⟨k, w⟩ := p
    simp only [Memory.wfFrom, Bool.and_eq_true, decide_eq_true_eq] at hw
    have hk : k ≠ a := by omega
    simp only [Memory.lookup, hk, if_false]
    exact ih (k + 1) hw.2 (by omega)

/-- A put at an address is read back there. -/
theorem Memory.lookup_put_same (m : Memory) (low a : Nat) (v : Byte) (hw : m.wfFrom low = true) :
    (m.put a v).lookup a = v := by
  have cellCase : ∀ rest : Memory, rest.lookup a = Memory.unlisted →
      Memory.lookup (Memory.cell a v ++ rest) a = v := by
    intro rest hr
    unfold Memory.cell
    split
    · next hv => simpa [hv] using hr
    · simp [Memory.lookup]
  induction m generalizing low with
  | nil => simpa [Memory.put] using cellCase [] rfl
  | cons p rest ih =>
    obtain ⟨k, w⟩ := p
    have hw' := hw
    simp only [Memory.wfFrom, Bool.and_eq_true, decide_eq_true_eq] at hw
    simp only [Memory.put]
    split
    · next hak =>
      refine cellCase _ (Memory.lookup_below _ k a ?_ hak)
      simp [Memory.wfFrom, hw.1.1.2, hw.1.2, hw.2]
    · split
      · next hak => exact cellCase _ (Memory.lookup_below _ (k + 1) a hw.2 (by omega))
      · next hak =>
        have : k ≠ a := fun h => hak h.symm
        simp only [Memory.lookup, this, if_false]
        exact ih (k + 1) hw.2

/-- A canonical list stays canonical above a lower bound. -/
theorem Memory.wfFrom_mono (m : Memory) (low low' : Nat) (hw : m.wfFrom low = true) (h : low' ≤ low) :
    m.wfFrom low' = true := by
  cases m with
  | nil => rfl
  | cons p rest =>
    simp only [Memory.wfFrom, Bool.and_eq_true, decide_eq_true_eq] at hw ⊢
    exact ⟨⟨⟨by omega, hw.1.1.2⟩, hw.1.2⟩, hw.2⟩

/-- One cell before a canonical list is canonical. -/
theorem Memory.wfFrom_cell_append (rest : Memory) (low a : Nat) (v : Byte) (hlow : low ≤ a) (ha : a < 65536)
    (hw : rest.wfFrom (a + 1) = true) : Memory.wfFrom low (Memory.cell a v ++ rest) = true := by
  unfold Memory.cell
  split
  · exact Memory.wfFrom_mono rest (a + 1) low hw (by omega)
  · next hv => simp [Memory.wfFrom, hlow, ha, hv, hw]

/-- A put keeps the canonical form. -/
theorem Memory.wfFrom_put (m : Memory) (low a : Nat) (v : Byte) (hlow : low ≤ a) (ha : a < 65536)
    (hw : m.wfFrom low = true) : (m.put a v).wfFrom low = true := by
  induction m generalizing low with
  | nil => simpa [Memory.put] using Memory.wfFrom_cell_append [] low a v hlow ha rfl
  | cons p rest ih =>
    obtain ⟨k, w⟩ := p
    simp only [Memory.wfFrom, Bool.and_eq_true, decide_eq_true_eq] at hw
    simp only [Memory.put]
    split
    · next hak =>
      refine Memory.wfFrom_cell_append _ low a v hlow ha ?_
      simp only [Memory.wfFrom, Bool.and_eq_true, decide_eq_true_eq]
      exact ⟨⟨⟨by omega, hw.1.1.2⟩, hw.1.2⟩, hw.2⟩
    · split
      · next hak =>
        refine Memory.wfFrom_cell_append _ low a v hlow ha ?_
        subst hak
        exact hw.2
      · simp only [Memory.wfFrom, Bool.and_eq_true, decide_eq_true_eq]
        exact ⟨⟨⟨hw.1.1.1, hw.1.1.2⟩, hw.1.2⟩, ih (k + 1) (by omega) hw.2⟩

/-- Two canonical lists that read alike are the same list. -/
theorem Memory.ext_lookup (m m' : Memory) (low : Nat) (hw : m.wfFrom low = true) (hw' : m'.wfFrom low = true)
    (h : ∀ a, m.lookup a = m'.lookup a) : m = m' := by
  induction m generalizing m' low with
  | nil =>
    cases m' with
    | nil => rfl
    | cons p rest =>
      obtain ⟨k, w⟩ := p
      simp only [Memory.wfFrom, Bool.and_eq_true, decide_eq_true_eq] at hw'
      have := h k
      simp [Memory.lookup] at this
      exact absurd this.symm hw'.1.2
  | cons p rest ih =>
    obtain ⟨k, w⟩ := p
    cases m' with
    | nil =>
      simp only [Memory.wfFrom, Bool.and_eq_true, decide_eq_true_eq] at hw
      have := h k
      simp [Memory.lookup] at this
      exact absurd this hw.1.2
    | cons p' rest' =>
      obtain ⟨k', w'⟩ := p'
      simp only [Memory.wfFrom, Bool.and_eq_true, decide_eq_true_eq] at hw hw'
      have hkk : k = k' := by
        rcases Nat.lt_trichotomy k k' with hlt | heq | hgt
        · have := h k
          have hne : k' ≠ k := by omega
          simp only [Memory.lookup, if_true, hne, if_false] at this
          rw [Memory.lookup_below rest' (k' + 1) k hw'.2 (by omega)] at this
          exact absurd this hw.1.2
        · exact heq
        · have := h k'
          have hne : k ≠ k' := by omega
          simp only [Memory.lookup, if_true, hne, if_false] at this
          rw [Memory.lookup_below rest (k + 1) k' hw.2 (by omega)] at this
          exact absurd this.symm hw'.1.2
      subst hkk
      have hww : w = w' := by simpa [Memory.lookup] using h k
      subst hww
      have hrest : rest = rest' := by
        refine ih rest' (k + 1) hw.2 hw'.2 fun a => ?_
        by_cases hak : k = a
        · subst hak
          rw [Memory.lookup_below rest (k + 1) k hw.2 (by omega),
            Memory.lookup_below rest' (k + 1) k hw'.2 (by omega)]
        · simpa [Memory.lookup, hak] using h a
      rw [hrest]

/-- Addresses past the end of the space are never listed. -/
theorem Memory.lookup_above (m : Memory) (low a : Nat) (hw : m.wfFrom low = true) (h : 65536 ≤ a) :
    m.lookup a = Memory.unlisted := by
  induction m generalizing low with
  | nil => rfl
  | cons p rest ih =>
    obtain ⟨k, w⟩ := p
    simp only [Memory.wfFrom, Bool.and_eq_true, decide_eq_true_eq] at hw
    have hk : k ≠ a := by omega
    simp only [Memory.lookup, hk, if_false]
    exact ih (k + 1) hw.2

/-! The same for the Bus's own operations. -/

/-- A store leaves every other address as it was. -/
@[simp] theorem Memory.read_write_ne (m : Memory) (a b : Word) (v : Byte) (h : b ≠ a) :
    (m.write a v).read b = m.read b :=
  Memory.lookup_put_ne m a.toNat b.toNat v (fun hn => h (BitVec.eq_of_toNat_eq hn))

/-- A byte stored is the byte fetched. -/
theorem Memory.read_write_same (m : Memory) (a : Word) (v : Byte) (hw : m.wf = true) :
    (m.write a v).read a = v :=
  Memory.lookup_put_same m 0 a.toNat v hw

/-- A store keeps the canonical form. -/
theorem Memory.wf_write (m : Memory) (a : Word) (v : Byte) (hw : m.wf = true) : (m.write a v).wf = true :=
  Memory.wfFrom_put m 0 a.toNat v (Nat.zero_le _) a.isLt hw

/-- What the fetch of any address after a store gives. -/
theorem Memory.read_write (m : Memory) (a b : Word) (v : Byte) (hw : m.wf = true) :
    (m.write a v).read b = if b = a then v else m.read b := by
  split
  · next h => rw [h, Memory.read_write_same m a v hw]
  · next h => exact Memory.read_write_ne m a b v h

/-- Placing bytes keeps the canonical form. -/
theorem Memory.wf_place (vs : List Byte) (m : Memory) (a : Word) (hw : m.wf = true) : (m.place a vs).wf = true := by
  induction vs generalizing m a with
  | nil => exact hw
  | cons v rest ih => exact ih _ _ (Memory.wf_write m a v hw)

/-- Two canonical memories that read alike at every address of the space are the same. -/
theorem Memory.ext_read (m m' : Memory) (hw : m.wf = true) (hw' : m'.wf = true)
    (h : ∀ a : Word, m.read a = m'.read a) : m = m' := by
  refine Memory.ext_lookup m m' 0 hw hw' fun a => ?_
  by_cases ha : a < 65536
  · have := h (BitVec.ofNat 16 a)
    simp only [Memory.read, BitVec.toNat_ofNat] at this
    rwa [Nat.mod_eq_of_lt (by simpa using ha)] at this
  · rw [Memory.lookup_above m 0 a hw (by omega), Memory.lookup_above m' 0 a hw' (by omega)]

end Sys2Proof.Machine
end

