-- ==== Sys2Proof/Laws/Ops.lean ====
section
/-! SUPPORT. What the shared operations do: the stack, entering an exception and returning, writing an operand. -/

namespace Sys2Proof.Machine

/-- An entry leaves every address outside its three stack bytes. -/
theorem entryMemory_read_ne (s : State) (pc a : Word) (b4 : Bool) (h0 : a ≠ stackAddr s.sp)
    (h1 : a ≠ stackAddr (s.sp - 1)) (h2 : a ≠ stackAddr (s.sp - 1 - 1)) :
    (entryMemory s pc b4).read a = s.mem.read a := by
  rw [entryMemory, Memory.read_write_ne _ _ _ _ h2, Memory.read_write_ne _ _ _ _ h1,
    Memory.read_write_ne _ _ _ _ h0]

/-- An entry leaves the vectors. -/
theorem entryMemory_read_high (s : State) (pc a : Word) (b4 : Bool) (h : 512 ≤ a.toNat) :
    (entryMemory s pc b4).read a = s.mem.read a :=
  entryMemory_read_ne s pc a b4 (stackAddr_ne_of_high _ _ h) (stackAddr_ne_of_high _ _ h)
    (stackAddr_ne_of_high _ _ h)

/-- An entry keeps the canonical form. -/
theorem entryMemory_wf (s : State) (pc : Word) (b4 : Bool) (hw : s.mem.wf = true) :
    (entryMemory s pc b4).wf = true :=
  Memory.wf_write _ _ _ (Memory.wf_write _ _ _ (Memory.wf_write _ _ _ hw))

/-- The three bytes an entry pushes. -/
theorem entryMemory_pushed (s : State) (pc : Word) (b4 : Bool) (hw : s.mem.wf = true) :
    (entryMemory s pc b4).read (stackAddr s.sp) = hi8 pc ∧
    (entryMemory s pc b4).read (stackAddr (s.sp - 1)) = lo8 pc ∧
    (entryMemory s pc b4).read (stackAddr (s.sp - 1 - 1)) = s.flags.packP b4 := by
  have hw1 := Memory.wf_write s.mem (stackAddr s.sp) (hi8 pc) hw
  have hw2 := Memory.wf_write _ (stackAddr (s.sp - 1)) (lo8 pc) hw1
  refine ⟨?_, ?_, ?_⟩
  · rw [entryMemory, Memory.read_write_ne _ _ _ _ (by simp), Memory.read_write_ne _ _ _ _ (by simp),
      Memory.read_write_same _ _ _ hw]
  · rw [entryMemory, Memory.read_write_ne _ _ _ _ (by simp), Memory.read_write_same _ _ _ hw1]
  · exact Memory.read_write_same _ _ _ hw2

/-- Loading the image gives the flags back. -/
theorem Flags.unpackP_packP (f : Flags) (b4 : Bool) : f.unpackP (f.packP b4) = f := by
  obtain ⟨n, v, b, d, i, z, c⟩ := f
  revert n v b d i z c b4
  decide

/-- The bits of the image. -/
theorem Flags.packP_bits (f : Flags) (b4 : Bool) :
    (f.packP b4).getLsbD 7 = f.n ∧ (f.packP b4).getLsbD 6 = f.v ∧ (f.packP b4).getLsbD 5 = true ∧
    (f.packP b4).getLsbD 4 = b4 ∧ (f.packP b4).getLsbD 3 = f.d ∧ (f.packP b4).getLsbD 2 = f.i ∧
    (f.packP b4).getLsbD 1 = f.z ∧ (f.packP b4).getLsbD 0 = f.c := by
  obtain ⟨n, v, b, d, i, z, c⟩ := f
  revert n v b d i z c b4
  decide

/-- Only memory and, in ACC mode, A can change when an operand is written. -/
theorem writeOp_cases (o : Operand) (v : Byte) (s : State) :
    (∃ ea, (resolve o s).ea = some ea ∧ writeOp o v s = s.store ea v) ∨
    ((resolve o s).ea = none ∧ writeOp o v s = s.setA v) := by
  unfold writeOp
  split
  · next ea h => exact .inl ⟨ea, h, rfl⟩
  · next h => exact .inr ⟨h, rfl⟩

/-- The modes without an effective address (30_encoding.md R88). -/
theorem resolve_ea_none (o : Operand) (s : State) : (resolve o s).ea = none ↔ o = .imp ∨ o = .acc := by
  cases o <;> simp [resolve, direct, indexed]

/-- The operand byte of a memory mode is the byte at the effective address (30_encoding.md R93). -/
theorem readOp_ea (o : Operand) (s : State) (ea : Word) (h : (resolve o s).ea = some ea) (hi : ∀ b, o ≠ .imm b) :
    readOp o s = s.load ea := by
  cases o <;> first | exact absurd rfl (hi _) | simp only [readOp, h]

@[simp] theorem writeOp_x (o : Operand) (v : Byte) (s : State) : (writeOp o v s).x = s.x := by
  unfold writeOp; split <;> rfl
@[simp] theorem writeOp_y (o : Operand) (v : Byte) (s : State) : (writeOp o v s).y = s.y := by
  unfold writeOp; split <;> rfl
@[simp] theorem writeOp_sp (o : Operand) (v : Byte) (s : State) : (writeOp o v s).sp = s.sp := by
  unfold writeOp; split <;> rfl
@[simp] theorem writeOp_pc (o : Operand) (v : Byte) (s : State) : (writeOp o v s).pc = s.pc := by
  unfold writeOp; split <;> rfl
@[simp] theorem writeOp_flags (o : Operand) (v : Byte) (s : State) : (writeOp o v s).flags = s.flags := by
  unfold writeOp; split <;> rfl
@[simp] theorem writeOp_jammed (o : Operand) (v : Byte) (s : State) : (writeOp o v s).jammed = s.jammed := by
  unfold writeOp; split <;> rfl
@[simp] theorem writeOp_nmiPending (o : Operand) (v : Byte) (s : State) :
    (writeOp o v s).nmiPending = s.nmiPending := by
  unfold writeOp; split <;> rfl
@[simp] theorem writeOp_irqLine (o : Operand) (v : Byte) (s : State) : (writeOp o v s).irqLine = s.irqLine := by
  unfold writeOp; split <;> rfl

/-- Writing an operand keeps the canonical form. -/
theorem writeOp_wf (o : Operand) (v : Byte) (s : State) (hw : s.mem.wf = true) : (writeOp o v s).mem.wf = true := by
  unfold writeOp
  split
  · exact Memory.wf_write _ _ _ hw
  · exact hw

@[simp] theorem jumpTo_flags (o : Operand) (s : State) : (jumpTo o s).flags = s.flags := by
  unfold jumpTo; split <;> rfl
@[simp] theorem jumpTo_a (o : Operand) (s : State) : (jumpTo o s).a = s.a := by
  unfold jumpTo; split <;> rfl
@[simp] theorem jumpTo_x (o : Operand) (s : State) : (jumpTo o s).x = s.x := by
  unfold jumpTo; split <;> rfl
@[simp] theorem jumpTo_y (o : Operand) (s : State) : (jumpTo o s).y = s.y := by
  unfold jumpTo; split <;> rfl
@[simp] theorem jumpTo_sp (o : Operand) (s : State) : (jumpTo o s).sp = s.sp := by
  unfold jumpTo; split <;> rfl
@[simp] theorem jumpTo_mem (o : Operand) (s : State) : (jumpTo o s).mem = s.mem := by
  unfold jumpTo; split <;> rfl
@[simp] theorem jumpTo_jammed (o : Operand) (s : State) : (jumpTo o s).jammed = s.jammed := by
  unfold jumpTo; split <;> rfl
@[simp] theorem jumpTo_nmiPending (o : Operand) (s : State) : (jumpTo o s).nmiPending = s.nmiPending := by
  unfold jumpTo; split <;> rfl
@[simp] theorem jumpTo_irqLine (o : Operand) (s : State) : (jumpTo o s).irqLine = s.irqLine := by
  unfold jumpTo; split <;> rfl

end Sys2Proof.Machine
end

