-- ==== Sys2Proof/Laws/Run.lean ====
section
/-! SUPPORT. Running several ticks: the first tick and the rest. -/

namespace Sys2Proof.Machine

/-- A run of one tick more, after its first tick. -/
theorem run_succ (k : Nat) (s t : State) (h : step s = .next t) :
    Host.Core.run core (k + 1) s = Host.Core.run core k t := by
  have h' : core.step s = .next t := h
  simp only [Host.Core.run, h']

/-- No tick. -/
theorem run_zero (s : State) : Host.Core.run core 0 s = .next s := rfl

end Sys2Proof.Machine
end

