-- ==== Sys2Proof/Tests/Slice0.lean ====
section
/-! SUPPORT. Tests of the model, each expected value from the spec, and one witness for each obligation that has
hypotheses: a concrete state and operands that meet them together. -/

namespace Sys2Proof.Tests

open Sys2Proof.Machine

/-- Memory holding the bytes named and nothing else. -/
def bytesAt (cells : List (Word × Byte)) : Memory := cells.foldl (fun m c => m.write c.1 c.2) []

/-- The state the vectors of 95_test_vectors.md start in: after `Reset()`, with the instruction at 0x0600. -/
def start : State := { resetFrom 0xFF [] with pc := 0x0600 }

/-- One tick, and a check of the state after it. -/
def ticks (s : State) (check : State → Bool) : Bool :=
  match step s with
  | .next t => check t
  | .fault _ => false
  | .refused _ => false

/-- One tick with the bytes given placed at PC. -/
def ran (bytes : List Byte) (s : State) (check : State → Bool) : Bool :=
  ticks { s with mem := s.mem.place s.pc bytes } check

/-- Every row's bytes decode to its instruction, with no byte left. -/
def decodesAll (rows : List (List Byte × Instr)) : Bool :=
  rows.all fun r =>
    match decode r.1 with
    | .ok (i, rest) => decide (i = r.2) && rest.isEmpty
    | .error _ => false

/-! Well-formedness (30_encoding.md R99, R100). -/

/-- 0xEA is NOP, so `illegal 0xEA` is no instruction: the one check refuses it. -/
theorem test_wellFormed_refuses_assigned_byte : (Instr.illegal 0xEA).wellFormed = false := by decide

/-- 0x02 is illegal (R99). -/
theorem test_wellFormed_illegal_byte : (Instr.illegal 0x02).wellFormed = true := by decide

/-- R2: 105 illegal bytes. -/
theorem test_illegal_count : illegalOpcodes.length = 105 := by decide

/-! Decoding: the word of every constructor, from the encodings of the family files; two operand bytes stand low byte
first (30_encoding.md R83). -/

/-- Loads and stores, the encodings of 40_load_store.md R111 to R116. -/
theorem test_decode_LoadStore : (decodesAll
    [([0xA9, 0x34], .ldaImm 0x34), ([0xA5, 0x34], .ldaZp 0x34), ([0xB5, 0x34], .ldaZpx 0x34),
      ([0xAD, 0x34, 0x12], .ldaAbs 0x1234), ([0xBD, 0x34, 0x12], .ldaAbx 0x1234), ([0xB9, 0x34, 0x12], .ldaAby 0x1234),
      ([0xA1, 0x34], .ldaIzx 0x34), ([0xB1, 0x34], .ldaIzy 0x34), ([0xA2, 0x34], .ldxImm 0x34),
      ([0xA6, 0x34], .ldxZp 0x34), ([0xB6, 0x34], .ldxZpy 0x34), ([0xAE, 0x34, 0x12], .ldxAbs 0x1234)] &&
    decodesAll [([0xBE, 0x34, 0x12], .ldxAby 0x1234), ([0xA0, 0x34], .ldyImm 0x34), ([0xA4, 0x34], .ldyZp 0x34),
      ([0xB4, 0x34], .ldyZpx 0x34), ([0xAC, 0x34, 0x12], .ldyAbs 0x1234), ([0xBC, 0x34, 0x12], .ldyAbx 0x1234),
      ([0x85, 0x34], .staZp 0x34), ([0x95, 0x34], .staZpx 0x34), ([0x8D, 0x34, 0x12], .staAbs 0x1234),
      ([0x9D, 0x34, 0x12], .staAbx 0x1234), ([0x99, 0x34, 0x12], .staAby 0x1234), ([0x81, 0x34], .staIzx 0x34)] &&
    decodesAll [([0x91, 0x34], .staIzy 0x34), ([0x86, 0x34], .stxZp 0x34), ([0x96, 0x34], .stxZpy 0x34),
      ([0x8E, 0x34, 0x12], .stxAbs 0x1234), ([0x84, 0x34], .styZp 0x34), ([0x94, 0x34], .styZpx 0x34),
      ([0x8C, 0x34, 0x12], .styAbs 0x1234)]) = true := by decide

/-- Transfers, the encodings of 41_transfer.md R120 to R125. -/
theorem test_decode_Transfer : (decodesAll
    [([0xAA], .tax), ([0xA8], .tay), ([0x8A], .txa),
      ([0x98], .tya), ([0xBA], .tsx), ([0x9A], .txs)]) = true := by decide

/-- Stack, the encodings of 42_stack.md R130 to R133. -/
theorem test_decode_Stack : (decodesAll
    [([0x48], .pha), ([0x08], .php), ([0x68], .pla),
      ([0x28], .plp)]) = true := by decide

/-- Logic, the encodings of 43_logic.md R140 to R143. -/
theorem test_decode_Logic : (decodesAll
    [([0x29, 0x34], .andImm 0x34), ([0x25, 0x34], .andZp 0x34), ([0x35, 0x34], .andZpx 0x34),
      ([0x2D, 0x34, 0x12], .andAbs 0x1234), ([0x3D, 0x34, 0x12], .andAbx 0x1234), ([0x39, 0x34, 0x12], .andAby 0x1234),
      ([0x21, 0x34], .andIzx 0x34), ([0x31, 0x34], .andIzy 0x34), ([0x09, 0x34], .oraImm 0x34),
      ([0x05, 0x34], .oraZp 0x34), ([0x15, 0x34], .oraZpx 0x34), ([0x0D, 0x34, 0x12], .oraAbs 0x1234)] &&
    decodesAll [([0x1D, 0x34, 0x12], .oraAbx 0x1234), ([0x19, 0x34, 0x12], .oraAby 0x1234), ([0x01, 0x34], .oraIzx 0x34),
      ([0x11, 0x34], .oraIzy 0x34), ([0x49, 0x34], .eorImm 0x34), ([0x45, 0x34], .eorZp 0x34),
      ([0x55, 0x34], .eorZpx 0x34), ([0x4D, 0x34, 0x12], .eorAbs 0x1234), ([0x5D, 0x34, 0x12], .eorAbx 0x1234),
      ([0x59, 0x34, 0x12], .eorAby 0x1234), ([0x41, 0x34], .eorIzx 0x34), ([0x51, 0x34], .eorIzy 0x34)] &&
    decodesAll [([0x24, 0x34], .bitZp 0x34), ([0x2C, 0x34, 0x12], .bitAbs 0x1234)]) = true := by decide

/-- Arithmetic, the encodings of 44_arithmetic.md R151, R154, R158 to R160. -/
theorem test_decode_Arithmetic : (decodesAll
    [([0x69, 0x34], .adcImm 0x34), ([0x65, 0x34], .adcZp 0x34), ([0x75, 0x34], .adcZpx 0x34),
      ([0x6D, 0x34, 0x12], .adcAbs 0x1234), ([0x7D, 0x34, 0x12], .adcAbx 0x1234), ([0x79, 0x34, 0x12], .adcAby 0x1234),
      ([0x61, 0x34], .adcIzx 0x34), ([0x71, 0x34], .adcIzy 0x34), ([0xE9, 0x34], .sbcImm 0x34),
      ([0xE5, 0x34], .sbcZp 0x34), ([0xF5, 0x34], .sbcZpx 0x34), ([0xED, 0x34, 0x12], .sbcAbs 0x1234)] &&
    decodesAll [([0xFD, 0x34, 0x12], .sbcAbx 0x1234), ([0xF9, 0x34, 0x12], .sbcAby 0x1234), ([0xE1, 0x34], .sbcIzx 0x34),
      ([0xF1, 0x34], .sbcIzy 0x34), ([0xC9, 0x34], .cmpImm 0x34), ([0xC5, 0x34], .cmpZp 0x34),
      ([0xD5, 0x34], .cmpZpx 0x34), ([0xCD, 0x34, 0x12], .cmpAbs 0x1234), ([0xDD, 0x34, 0x12], .cmpAbx 0x1234),
      ([0xD9, 0x34, 0x12], .cmpAby 0x1234), ([0xC1, 0x34], .cmpIzx 0x34), ([0xD1, 0x34], .cmpIzy 0x34)] &&
    decodesAll [([0xE0, 0x34], .cpxImm 0x34), ([0xE4, 0x34], .cpxZp 0x34), ([0xEC, 0x34, 0x12], .cpxAbs 0x1234),
      ([0xC0, 0x34], .cpyImm 0x34), ([0xC4, 0x34], .cpyZp 0x34), ([0xCC, 0x34, 0x12], .cpyAbs 0x1234)]) = true := by decide

/-- Increments, the encodings of 45_incdec.md R170 to R175. -/
theorem test_decode_IncDec : (decodesAll
    [([0xE6, 0x34], .incZp 0x34), ([0xF6, 0x34], .incZpx 0x34), ([0xEE, 0x34, 0x12], .incAbs 0x1234),
      ([0xFE, 0x34, 0x12], .incAbx 0x1234), ([0xC6, 0x34], .decZp 0x34), ([0xD6, 0x34], .decZpx 0x34),
      ([0xCE, 0x34, 0x12], .decAbs 0x1234), ([0xDE, 0x34, 0x12], .decAbx 0x1234), ([0xE8], .inx),
      ([0xC8], .iny), ([0xCA], .dex), ([0x88], .dey)]) = true := by decide

/-- Shifts, the encodings of 46_shift.md R181 to R184. -/
theorem test_decode_Shift : (decodesAll
    [([0x0A], .aslAcc), ([0x06, 0x34], .aslZp 0x34), ([0x16, 0x34], .aslZpx 0x34),
      ([0x0E, 0x34, 0x12], .aslAbs 0x1234), ([0x1E, 0x34, 0x12], .aslAbx 0x1234), ([0x4A], .lsrAcc),
      ([0x46, 0x34], .lsrZp 0x34), ([0x56, 0x34], .lsrZpx 0x34), ([0x4E, 0x34, 0x12], .lsrAbs 0x1234),
      ([0x5E, 0x34, 0x12], .lsrAbx 0x1234), ([0x2A], .rolAcc), ([0x26, 0x34], .rolZp 0x34)] &&
    decodesAll [([0x36, 0x34], .rolZpx 0x34), ([0x2E, 0x34, 0x12], .rolAbs 0x1234), ([0x3E, 0x34, 0x12], .rolAbx 0x1234),
      ([0x6A], .rorAcc), ([0x66, 0x34], .rorZp 0x34), ([0x76, 0x34], .rorZpx 0x34),
      ([0x6E, 0x34, 0x12], .rorAbs 0x1234), ([0x7E, 0x34, 0x12], .rorAbx 0x1234)]) = true := by decide

/-- Jumps, the encodings of 47_jump.md R190 to R192. -/
theorem test_decode_Jump : (decodesAll
    [([0x4C, 0x34, 0x12], .jmpAbs 0x1234), ([0x6C, 0x34, 0x12], .jmpInd 0x1234), ([0x20, 0x34, 0x12], .jsr 0x1234),
      ([0x60], .rts)]) = true := by decide

/-- Branches, the encodings of 48_branch.md R201 to R208. -/
theorem test_decode_Branch : (decodesAll
    [([0x90, 0x34], .bcc 0x34), ([0xB0, 0x34], .bcs 0x34), ([0xF0, 0x34], .beq 0x34),
      ([0xD0, 0x34], .bne 0x34), ([0x30, 0x34], .bmi 0x34), ([0x10, 0x34], .bpl 0x34),
      ([0x50, 0x34], .bvc 0x34), ([0x70, 0x34], .bvs 0x34)]) = true := by decide

/-- Flags and system, the encodings of 49_flag_system.md R215 to R224. -/
theorem test_decode_FlagSystem : (decodesAll
    [([0x18], .clc), ([0x38], .sec), ([0x58], .cli),
      ([0x78], .sei), ([0xD8], .cld), ([0xF8], .sed),
      ([0xB8], .clv), ([0xEA], .nop), ([0x00], .brk),
      ([0x40], .rti)]) = true := by decide

/-- Each of the 105 illegal bytes of R99 decodes to `illegal` of itself. -/
theorem test_decode_illegal :
    illegalOpcodes.all (fun op =>
      match decode [op] with
      | .ok (i, rest) => decide (i = .illegal op) && rest.isEmpty
      | .error _ => false) = true := by decide

/-- Decoding refuses by name: no opcode byte, and an operand byte missing. -/
theorem test_decode_refuses :
    (match decode [] with | .error e => decide (e = .noOpcode) | .ok _ => false) &&
    (match decode [0xAD, 0x34] with | .error e => decide (e = .missingOperand 0xAD) | .ok _ => false) = true := by
  decide

/-- A table word: STA $1234 is 8D 34 12, the first byte lowest; bits above `nbits` are zero bytes. -/
theorem test_decodeTableWord :
    decodeTableWord 24 0x12348D = some (.staAbs 0x1234) ∧ decodeTableWord 8 0x8D = some (.staAbs 0) := by decide

/-- The notation of 30_encoding.md R101. -/
theorem test_assembly :
    (Instr.ldaIzy 0x20).assembly 0 = ['L', 'D', 'A', ' ', '(', '$', '2', '0', ')', ',', 'Y'] ∧
    (Instr.bne 0xFB).assembly 0x0605 = ['B', 'N', 'E', ' ', '$', '0', '6', '0', '2'] := by decide

/-! Words (S1) and the status byte. -/

theorem test_word : word 0x12 0x34 = 0x1234 ∧ lo8 0x1234 = 0x34 ∧ hi8 0x1234 = 0x12 ∧ word 0x00 0xFF = 0x00FF := by
  decide

/-! Addition and subtraction: rows of table A, as (result, C, Z, V, N). -/

/-- A3 to A7. -/
theorem test_addBinary_vectors :
    addBinary 0xFF 0x00 true = ⟨0x00, true, true, false, false⟩ ∧
    addBinary 0x80 0x80 false = ⟨0x00, true, true, true, false⟩ ∧
    addBinary 0x50 0x50 false = ⟨0xA0, false, false, true, true⟩ ∧
    addBinary 0xD0 0x90 false = ⟨0x60, true, false, true, false⟩ ∧
    addBinary 0x7F 0x7F true = ⟨0xFF, false, false, true, true⟩ := by decide

/-- A9 to A13. -/
theorem test_decAdc_vectors :
    decAdc 0x09 0x01 false = ⟨0x10, false, false, false, false⟩ ∧
    decAdc 0x99 0x01 false = ⟨0x00, true, true, false, false⟩ ∧
    decAdc 0x58 0x46 true = ⟨0x05, true, false, false, false⟩ ∧
    decAdc 0x79 0x10 false = ⟨0x89, false, false, true, true⟩ ∧
    decAdc 0x0F 0x00 false = ⟨0x15, false, false, false, false⟩ := by decide

/-- A15, A16, A18, A19. -/
theorem test_sbcResult_binary_vectors :
    sbcResult false 0x50 0xB0 true = ⟨0xA0, false, false, true, true⟩ ∧
    sbcResult false 0x00 0x01 true = ⟨0xFF, false, false, false, true⟩ ∧
    sbcResult false 0x05 0x05 true = ⟨0x00, true, true, false, false⟩ ∧
    sbcResult false 0x05 0x05 false = ⟨0xFF, false, false, false, true⟩ := by decide

/-- A20 to A22. -/
theorem test_sbcResult_decimal_vectors :
    sbcResult true 0x50 0x25 true = ⟨0x25, true, false, false, false⟩ ∧
    sbcResult true 0x00 0x01 true = ⟨0x99, false, false, false, true⟩ ∧
    sbcResult true 0x46 0x12 false = ⟨0x33, true, false, false, false⟩ := by decide

/-! One tick per row of part 2 of 95_test_vectors.md, each by its name there. -/

/-- L1, `LDA #$00`. -/
theorem test_L1 : ran [0xA9, 0x00] { start with a := 0x55 }
    (fun t => t.a == 0x00 && t.pc == 0x0602 && t.flags.z && !t.flags.n && t.cycleDebt + 1 == 2) = true := by decide

/-- L2, `LDA #$80`. -/
theorem test_L2 : ran [0xA9, 0x80] start
    (fun t => t.a == 0x80 && t.pc == 0x0602 && !t.flags.z && t.flags.n && t.cycleDebt + 1 == 2) = true := by decide

/-- L3, `LDA $10`. -/
theorem test_L3 : ran [0xA5, 0x10] { start with mem := bytesAt [(0x0010, 0x7F)] }
    (fun t => t.a == 0x7F && !t.flags.z && !t.flags.n && t.cycleDebt + 1 == 3) = true := by decide

/-- L4, `LDA $F0,X`. -/
theorem test_L4 : ran [0xB5, 0xF0] { start with x := 0x20, mem := bytesAt [(0x0010, 0x33), (0x0110, 0x44)] }
    (fun t => t.a == 0x33 && !t.flags.z && !t.flags.n && t.cycleDebt + 1 == 4) = true := by decide

/-- L5, `LDA $FF,X`. -/
theorem test_L5 : ran [0xB5, 0xFF] { start with x := 0x01, mem := bytesAt [(0x0000, 0x77), (0x0100, 0x88)] }
    (fun t => t.a == 0x77 && !t.flags.z && !t.flags.n && t.cycleDebt + 1 == 4) = true := by decide

/-- L6, `LDA $12F0,X`. -/
theorem test_L6 : ran [0xBD, 0xF0, 0x12] { start with x := 0x0F, mem := bytesAt [(0x12FF, 0x01)] }
    (fun t => t.a == 0x01 && !t.flags.z && !t.flags.n && t.cycleDebt + 1 == 4) = true := by decide

/-- L7, `LDA $12F0,X`. -/
theorem test_L7 : ran [0xBD, 0xF0, 0x12] { start with x := 0x10, mem := bytesAt [(0x1300, 0x02)] }
    (fun t => t.a == 0x02 && !t.flags.z && !t.flags.n && t.cycleDebt + 1 == 5) = true := by decide

/-- L8, `LDA $FFFF,Y`. -/
theorem test_L8 : ran [0xB9, 0xFF, 0xFF] { start with y := 0x02, mem := bytesAt [(0x0001, 0x99)] }
    (fun t => t.a == 0x99 && !t.flags.z && t.flags.n && t.cycleDebt + 1 == 5) = true := by decide

/-- L9, `LDA ($20,X)`. -/
theorem test_L9 : ran [0xA1, 0x20]
    { start with x := 0x04, mem := bytesAt [(0x0020, 0x00), (0x0021, 0x40), (0x0024, 0x00), (0x0025, 0x30), (0x3000, 0xAB), (0x4004, 0xCD)] }
    (fun t => t.a == 0xAB && !t.flags.z && t.flags.n && t.cycleDebt + 1 == 6) = true := by decide

/-- L10, `LDA ($20),Y`. -/
theorem test_L10 : ran [0xB1, 0x20]
    { start with y := 0x04, mem := bytesAt [(0x0020, 0x00), (0x0021, 0x40), (0x0024, 0x00), (0x0025, 0x30), (0x3000, 0xAB), (0x4004, 0xCD)] }
    (fun t => t.a == 0xCD && !t.flags.z && t.flags.n && t.cycleDebt + 1 == 5) = true := by decide

/-- L11, `LDA ($FF,X)`. -/
theorem test_L11 : ran [0xA1, 0xFF]
    { start with x := 0x00, mem := bytesAt [(0x00FF, 0x34), (0x0000, 0x12), (0x0100, 0x56), (0x1234, 0x5A)] }
    (fun t => t.a == 0x5A && t.cycleDebt + 1 == 6) = true := by decide

/-- L12, `LDA ($FF),Y`. -/
theorem test_L12 : ran [0xB1, 0xFF]
    { start with y := 0x01, mem := bytesAt [(0x00FF, 0xFF), (0x0000, 0x12), (0x0100, 0x56), (0x1300, 0x6B)] }
    (fun t => t.a == 0x6B && t.cycleDebt + 1 == 6) = true := by decide

/-- L13, `LDX $10,Y`. -/
theorem test_L13 : ran [0xB6, 0x10] { start with y := 0x05, mem := bytesAt [(0x0015, 0x80)] }
    (fun t => t.x == 0x80 && !t.flags.z && t.flags.n && t.cycleDebt + 1 == 4) = true := by decide

/-- L14, `LDX $1280,Y`. -/
theorem test_L14 : ran [0xBE, 0x80, 0x12] { start with y := 0x80, mem := bytesAt [(0x1300, 0x00)] }
    (fun t => t.x == 0x00 && t.flags.z && !t.flags.n && t.cycleDebt + 1 == 5) = true := by decide

/-- L15, `LDY $1200,X`. -/
theorem test_L15 : ran [0xBC, 0x00, 0x12] { start with x := 0xFF, mem := bytesAt [(0x12FF, 0x01)] }
    (fun t => t.y == 0x01 && !t.flags.z && !t.flags.n && t.cycleDebt + 1 == 4) = true := by decide

/-- L16, `STA $12F0,X`. -/
theorem test_L16 : ran [0x9D, 0xF0, 0x12]
    { start with a := 0x5A, x := 0x10, flags := { Flags.cleared with n := true } }
    (fun t => !t.flags.z && t.flags.n && t.load 0x1300 == 0x5A && t.cycleDebt + 1 == 5) = true := by decide

/-- L17, `STA $12F0,X`. -/
theorem test_L17 : ran [0x9D, 0xF0, 0x12] { start with a := 0x11, x := 0x01 }
    (fun t => t.load 0x12F1 == 0x11 && t.cycleDebt + 1 == 5) = true := by decide

/-- L18, `STA ($20),Y`. -/
theorem test_L18 : ran [0x91, 0x20]
    { start with a := 0x77, y := 0x01, mem := bytesAt [(0x0020, 0xFF), (0x0021, 0x30)] }
    (fun t => t.load 0x3100 == 0x77 && t.cycleDebt + 1 == 6) = true := by decide

/-- L19, `STA ($20,X)`. -/
theorem test_L19 : ran [0x81, 0x20]
    { start with a := 0x66, x := 0x04, mem := bytesAt [(0x0024, 0x00), (0x0025, 0x30)] }
    (fun t => t.load 0x3000 == 0x66 && t.cycleDebt + 1 == 6) = true := by decide

/-- L20, `STX $F0,Y`. -/
theorem test_L20 : ran [0x96, 0xF0] { start with x := 0x12, y := 0x20 }
    (fun t => t.load 0x0010 == 0x12 && t.cycleDebt + 1 == 4) = true := by decide

/-- L21, `STY $0200`. -/
theorem test_L21 : ran [0x8C, 0x00, 0x02] { start with y := 0x34 }
    (fun t => t.load 0x0200 == 0x34 && t.cycleDebt + 1 == 4) = true := by decide

/-- T1, `TAX`. -/
theorem test_T1 : ran [0xAA] { start with a := 0x00, x := 0x55 }
    (fun t => t.x == 0x00 && t.flags.z && !t.flags.n && t.cycleDebt + 1 == 2) = true := by decide

/-- T2, `TAY`. -/
theorem test_T2 : ran [0xA8] { start with a := 0x80 }
    (fun t => t.y == 0x80 && !t.flags.z && t.flags.n && t.cycleDebt + 1 == 2) = true := by decide

/-- T3, `TXA`. -/
theorem test_T3 : ran [0x8A] { start with x := 0x7F }
    (fun t => t.a == 0x7F && !t.flags.z && !t.flags.n && t.cycleDebt + 1 == 2) = true := by decide

/-- T4, `TYA`. -/
theorem test_T4 : ran [0x98] { start with a := 0x11, y := 0x00 }
    (fun t => t.a == 0x00 && t.flags.z && !t.flags.n && t.cycleDebt + 1 == 2) = true := by decide

/-- T5, `TSX`. -/
theorem test_T5 : ran [0xBA] { start with x := 0x11, sp := 0x00 }
    (fun t => t.x == 0x00 && t.flags.z && !t.flags.n && t.cycleDebt + 1 == 2) = true := by decide

/-- T6, `TXS`. -/
theorem test_T6 : ran [0x9A] { start with x := 0x00, flags := { Flags.cleared with n := true } }
    (fun t => t.sp == 0x00 && !t.flags.z && t.flags.n && t.cycleDebt + 1 == 2) = true := by decide

/-- K1, `PHA`. -/
theorem test_K1 : ran [0x48] { start with a := 0x9C, sp := 0x00 }
    (fun t => t.sp == 0xFF && t.load 0x0100 == 0x9C && t.cycleDebt + 1 == 3) = true := by decide

/-- K2, `PHP`. -/
theorem test_K2 : ran [0x08] start
    (fun t => t.sp == 0xFE && t.load 0x01FF == 0x30 && t.cycleDebt + 1 == 3) = true := by decide

/-- K3, `PHP`. -/
theorem test_K3 : ran [0x08]
    { start with flags := { Flags.cleared with n := true, v := true, d := true, i := true, z := true, c := true } }
    (fun t => t.sp == 0xFE && t.load 0x01FF == 0xFF && t.cycleDebt + 1 == 3) = true := by decide

/-- K4, `PLA`. -/
theorem test_K4 : ran [0x68] { start with a := 0x55, sp := 0xFF, mem := bytesAt [(0x0100, 0x00)] }
    (fun t => t.a == 0x00 && t.sp == 0x00 && t.flags.z && !t.flags.n && t.cycleDebt + 1 == 4) = true := by decide

/-- K5, `PLA`. -/
theorem test_K5 : ran [0x68] { start with sp := 0xFE, mem := bytesAt [(0x01FF, 0x80)] }
    (fun t => t.a == 0x80 && t.sp == 0xFF && !t.flags.z && t.flags.n && t.cycleDebt + 1 == 4) = true := by decide

/-- K6, `PLP`. -/
theorem test_K6 : ran [0x28] { start with sp := 0xFE, mem := bytesAt [(0x01FF, 0xFF)] }
    (fun t => t.sp == 0xFF && t.flags.n && t.flags.v && t.flags.d && t.flags.i && t.flags.z && t.flags.c &&
      !t.flags.b && t.cycleDebt + 1 == 4) = true := by decide

/-- K7, `PLP`. -/
theorem test_K7 : ran [0x28]
    { start with sp := 0xFE, flags := { Flags.cleared with n := true, v := true, d := true, i := true, z := true, c := true }, mem := bytesAt [(0x01FF, 0x00)] }
    (fun t => t.sp == 0xFF && !t.flags.n && !t.flags.v && !t.flags.d && !t.flags.i && !t.flags.z && !t.flags.c &&
      !t.flags.b && t.cycleDebt + 1 == 4) = true := by decide

/-- G1, `AND #$0F`. -/
theorem test_G1 : ran [0x29, 0x0F] { start with a := 0xF0 }
    (fun t => t.a == 0x00 && t.flags.z && !t.flags.n && t.cycleDebt + 1 == 2) = true := by decide

/-- G2, `AND $10`. -/
theorem test_G2 : ran [0x25, 0x10] { start with a := 0xA5, mem := bytesAt [(0x0010, 0xC3)] }
    (fun t => t.a == 0x81 && !t.flags.z && t.flags.n && t.cycleDebt + 1 == 3) = true := by decide

/-- G3, `ORA #$00`. -/
theorem test_G3 : ran [0x09, 0x00] { start with a := 0x00, flags := { Flags.cleared with n := true } }
    (fun t => t.a == 0x00 && t.flags.z && !t.flags.n && t.cycleDebt + 1 == 2) = true := by decide

/-- G4, `ORA $20FF,Y`. -/
theorem test_G4 : ran [0x19, 0xFF, 0x20] { start with a := 0x02, y := 0x01, mem := bytesAt [(0x2100, 0x81)] }
    (fun t => t.a == 0x83 && !t.flags.z && t.flags.n && t.cycleDebt + 1 == 5) = true := by decide

/-- G5, `EOR #$AA`. -/
theorem test_G5 : ran [0x49, 0xAA] { start with a := 0xAA }
    (fun t => t.a == 0x00 && t.flags.z && !t.flags.n && t.cycleDebt + 1 == 2) = true := by decide

/-- G6, `EOR ($40),Y`. -/
theorem test_G6 : ran [0x51, 0x40]
    { start with a := 0xF0, y := 0x03, mem := bytesAt [(0x0040, 0x00), (0x0041, 0x20), (0x2003, 0x0F)] }
    (fun t => t.a == 0xFF && !t.flags.z && t.flags.n && t.cycleDebt + 1 == 5) = true := by decide

/-- G7, `BIT $10`. -/
theorem test_G7 : ran [0x24, 0x10] { start with a := 0x3F, mem := bytesAt [(0x0010, 0xC0)] }
    (fun t => t.a == 0x3F && t.flags.z && t.flags.n && t.flags.v && t.cycleDebt + 1 == 3) = true := by decide

/-- G8, `BIT $0200`. -/
theorem test_G8 : ran [0x2C, 0x00, 0x02]
    { start with a := 0x01, flags := { Flags.cleared with n := true }, mem := bytesAt [(0x0200, 0x41)] }
    (fun t => t.a == 0x01 && !t.flags.z && !t.flags.n && t.flags.v && t.cycleDebt + 1 == 4) = true := by decide

/-- G9, `BIT $10`. -/
theorem test_G9 : ran [0x24, 0x10]
    { start with a := 0xFF, flags := { Flags.cleared with n := true, v := true }, mem := bytesAt [(0x0010, 0x00)] }
    (fun t => t.a == 0xFF && t.flags.z && !t.flags.n && !t.flags.v && t.cycleDebt + 1 == 3) = true := by decide

/-- A1, `ADC #$01`. -/
theorem test_A1 : ran [0x69, 0x01] { start with a := 0xFF }
    (fun t => t.a == 0x00 && t.flags.c && t.flags.z && !t.flags.n && !t.flags.v &&
      t.cycleDebt + 1 == 2) = true := by decide

/-- A2, `ADC #$01`. -/
theorem test_A2 : ran [0x69, 0x01] { start with a := 0x7F }
    (fun t => t.a == 0x80 && !t.flags.c && !t.flags.z && t.flags.n && t.flags.v &&
      t.cycleDebt + 1 == 2) = true := by decide

/-- A8, `ADC $10,X`. -/
theorem test_A8 : ran [0x75, 0x10]
    { start with a := 0x11, x := 0x02, flags := { Flags.cleared with c := true }, mem := bytesAt [(0x0012, 0x22)] }
    (fun t => t.a == 0x34 && !t.flags.c && !t.flags.z && !t.flags.n && !t.flags.v &&
      t.cycleDebt + 1 == 4) = true := by decide

/-- A14, `SBC #$F0`. -/
theorem test_A14 : ran [0xE9, 0xF0] { start with a := 0x50, flags := { Flags.cleared with c := true } }
    (fun t => t.a == 0x60 && !t.flags.c && !t.flags.z && !t.flags.n && !t.flags.v &&
      t.cycleDebt + 1 == 2) = true := by decide

/-- A17, `SBC #$01`. -/
theorem test_A17 : ran [0xE9, 0x01] { start with a := 0x80, flags := { Flags.cleared with c := true } }
    (fun t => t.a == 0x7F && t.flags.c && !t.flags.z && !t.flags.n && t.flags.v &&
      t.cycleDebt + 1 == 2) = true := by decide

/-- A23, `CMP #$40`. -/
theorem test_A23 : ran [0xC9, 0x40] { start with a := 0x40 }
    (fun t => t.flags.c && t.flags.z && !t.flags.n && t.cycleDebt + 1 == 2) = true := by decide

/-- A24, `CMP #$41`. -/
theorem test_A24 : ran [0xC9, 0x41] { start with a := 0x40, flags := { Flags.cleared with c := true } }
    (fun t => !t.flags.c && !t.flags.z && t.flags.n && t.cycleDebt + 1 == 2) = true := by decide

/-- A27, `CMP $20FF,X`. -/
theorem test_A27 : ran [0xDD, 0xFF, 0x20] { start with a := 0x10, x := 0x01, mem := bytesAt [(0x2100, 0x10)] }
    (fun t => t.flags.c && t.flags.z && !t.flags.n && t.cycleDebt + 1 == 5) = true := by decide

/-- A28, `CPX $10`. -/
theorem test_A28 : ran [0xE4, 0x10] { start with x := 0x05, mem := bytesAt [(0x0010, 0x06)] }
    (fun t => !t.flags.c && !t.flags.z && t.flags.n && t.cycleDebt + 1 == 3) = true := by decide

/-- A29, `CPY $0200`. -/
theorem test_A29 : ran [0xCC, 0x00, 0x02] { start with y := 0xFF, mem := bytesAt [(0x0200, 0x7F)] }
    (fun t => t.flags.c && !t.flags.z && t.flags.n && t.cycleDebt + 1 == 4) = true := by decide

/-- I1, `INC $10`. -/
theorem test_I1 : ran [0xE6, 0x10]
    { start with flags := { Flags.cleared with c := true }, mem := bytesAt [(0x0010, 0xFF)] }
    (fun t => t.flags.z && !t.flags.n && t.flags.c && t.load 0x0010 == 0x00 &&
      t.cycleDebt + 1 == 5) = true := by decide

/-- I2, `INC $20FF,X`. -/
theorem test_I2 : ran [0xFE, 0xFF, 0x20] { start with x := 0x01, mem := bytesAt [(0x2100, 0x7F)] }
    (fun t => !t.flags.z && t.flags.n && t.load 0x2100 == 0x80 && t.cycleDebt + 1 == 7) = true := by decide

/-- I3, `INC $2000,X`. -/
theorem test_I3 : ran [0xFE, 0x00, 0x20] { start with x := 0x01, mem := bytesAt [(0x2001, 0x00)] }
    (fun t => !t.flags.z && !t.flags.n && t.load 0x2001 == 0x01 && t.cycleDebt + 1 == 7) = true := by decide

/-- I4, `DEC $10,X`. -/
theorem test_I4 : ran [0xD6, 0x10] { start with x := 0x02, mem := bytesAt [(0x0012, 0x00)] }
    (fun t => !t.flags.z && t.flags.n && t.load 0x0012 == 0xFF && t.cycleDebt + 1 == 6) = true := by decide

/-- I5, `DEC $0200`. -/
theorem test_I5 : ran [0xCE, 0x00, 0x02] { start with mem := bytesAt [(0x0200, 0x80)] }
    (fun t => !t.flags.z && !t.flags.n && !t.flags.v && t.load 0x0200 == 0x7F &&
      t.cycleDebt + 1 == 6) = true := by decide

/-- I6, `INX`. -/
theorem test_I6 : ran [0xE8] { start with x := 0xFF }
    (fun t => t.x == 0x00 && t.flags.z && !t.flags.n && !t.flags.c && t.cycleDebt + 1 == 2) = true := by decide

/-- I7, `INY`. -/
theorem test_I7 : ran [0xC8] { start with y := 0x7F }
    (fun t => t.y == 0x80 && !t.flags.z && t.flags.n && !t.flags.v && t.cycleDebt + 1 == 2) = true := by decide

/-- I8, `DEX`. -/
theorem test_I8 : ran [0xCA] { start with x := 0x00 }
    (fun t => t.x == 0xFF && !t.flags.z && t.flags.n && t.cycleDebt + 1 == 2) = true := by decide

/-- I9, `DEY`. -/
theorem test_I9 : ran [0x88] { start with y := 0x01 }
    (fun t => t.y == 0x00 && t.flags.z && !t.flags.n && t.cycleDebt + 1 == 2) = true := by decide

/-- H1, `ASL A`. -/
theorem test_H1 : ran [0x0A] { start with a := 0x80 }
    (fun t => t.a == 0x00 && t.flags.c && t.flags.z && !t.flags.n && t.cycleDebt + 1 == 2) = true := by decide

/-- H2, `ASL A`. -/
theorem test_H2 : ran [0x0A] { start with a := 0x40, flags := { Flags.cleared with c := true } }
    (fun t => t.a == 0x80 && !t.flags.c && !t.flags.z && t.flags.n && t.cycleDebt + 1 == 2) = true := by decide

/-- H3, `ASL $10`. -/
theorem test_H3 : ran [0x06, 0x10] { start with mem := bytesAt [(0x0010, 0xC1)] }
    (fun t => t.flags.c && !t.flags.z && t.flags.n && t.load 0x0010 == 0x82 &&
      t.cycleDebt + 1 == 5) = true := by decide

/-- H4, `LSR A`. -/
theorem test_H4 : ran [0x4A] { start with a := 0x01, flags := { Flags.cleared with n := true } }
    (fun t => t.a == 0x00 && t.flags.c && t.flags.z && !t.flags.n && t.cycleDebt + 1 == 2) = true := by decide

/-- H5, `LSR $20FF,X`. -/
theorem test_H5 : ran [0x5E, 0xFF, 0x20] { start with x := 0x01, mem := bytesAt [(0x2100, 0xFE)] }
    (fun t => !t.flags.c && !t.flags.z && !t.flags.n && t.load 0x2100 == 0x7F &&
      t.cycleDebt + 1 == 7) = true := by decide

/-- H6, `ROL A`. -/
theorem test_H6 : ran [0x2A] { start with a := 0x80 }
    (fun t => t.a == 0x00 && t.flags.c && t.flags.z && !t.flags.n && t.cycleDebt + 1 == 2) = true := by decide

/-- H7, `ROL A`. -/
theorem test_H7 : ran [0x2A] { start with a := 0x00, flags := { Flags.cleared with c := true } }
    (fun t => t.a == 0x01 && !t.flags.c && !t.flags.z && !t.flags.n && t.cycleDebt + 1 == 2) = true := by decide

/-- H8, `ROL $10,X`. -/
theorem test_H8 : ran [0x36, 0x10]
    { start with x := 0x01, flags := { Flags.cleared with c := true }, mem := bytesAt [(0x0011, 0x55)] }
    (fun t => !t.flags.c && !t.flags.z && t.flags.n && t.load 0x0011 == 0xAB &&
      t.cycleDebt + 1 == 6) = true := by decide

/-- H9, `ROR A`. -/
theorem test_H9 : ran [0x6A] { start with a := 0x01 }
    (fun t => t.a == 0x00 && t.flags.c && t.flags.z && !t.flags.n && t.cycleDebt + 1 == 2) = true := by decide

/-- H10, `ROR A`. -/
theorem test_H10 : ran [0x6A] { start with a := 0x00, flags := { Flags.cleared with c := true } }
    (fun t => t.a == 0x80 && !t.flags.c && !t.flags.z && t.flags.n && t.cycleDebt + 1 == 2) = true := by decide

/-- H11, `ROR $0200`. -/
theorem test_H11 : ran [0x6E, 0x00, 0x02]
    { start with flags := { Flags.cleared with c := true }, mem := bytesAt [(0x0200, 0x02)] }
    (fun t => !t.flags.c && !t.flags.z && t.flags.n && t.load 0x0200 == 0x81 &&
      t.cycleDebt + 1 == 6) = true := by decide

/-- J1, `JMP $1234`. -/
theorem test_J1 : ran [0x4C, 0x34, 0x12] start
    (fun t => t.pc == 0x1234 && t.cycleDebt + 1 == 3) = true := by decide

/-- J2, `JMP ($0300)`. -/
theorem test_J2 : ran [0x6C, 0x00, 0x03] { start with mem := bytesAt [(0x0300, 0x34), (0x0301, 0x12)] }
    (fun t => t.pc == 0x1234 && t.cycleDebt + 1 == 5) = true := by decide

/-- J6, `JSR $0610`. -/
theorem test_J6 : ran [0x20, 0x10, 0x06] { start with sp := 0xFF }
    (fun t => t.sp == 0xFD && t.pc == 0x0610 && t.load 0x01FF == 0x06 && t.load 0x01FE == 0x02 &&
      t.cycleDebt + 1 == 6) = true := by decide

/-- J7, `JSR $1234`. -/
theorem test_J7 : ran [0x20, 0x34, 0x12] { start with sp := 0x00 }
    (fun t => t.sp == 0xFE && t.pc == 0x1234 && t.load 0x0100 == 0x06 && t.load 0x01FF == 0x02 &&
      t.cycleDebt + 1 == 6) = true := by decide

/-- J9, `RTS`. -/
theorem test_J9 : ran [0x60] { start with sp := 0xFD, mem := bytesAt [(0x01FE, 0x02), (0x01FF, 0x06)] }
    (fun t => t.sp == 0xFF && t.pc == 0x0603 && t.cycleDebt + 1 == 6) = true := by decide

/-- J11, `RTS`. -/
theorem test_J11 : ran [0x60] { start with sp := 0xFE, mem := bytesAt [(0x01FF, 0x33), (0x0100, 0x12)] }
    (fun t => t.sp == 0x00 && t.pc == 0x1234 && t.cycleDebt + 1 == 6) = true := by decide

/-- B1, `BCC *+4`. -/
theorem test_B1 : ran [0x90, 0x02] start
    (fun t => t.pc == 0x0604 && t.cycleDebt + 1 == 3) = true := by decide

/-- B2, `BCC *+4`. -/
theorem test_B2 : ran [0x90, 0x02] { start with flags := { Flags.cleared with c := true } }
    (fun t => t.pc == 0x0602 && t.cycleDebt + 1 == 2) = true := by decide

/-- B3, `BCS *`. -/
theorem test_B3 : ran [0xB0, 0xFE] { start with flags := { Flags.cleared with c := true } }
    (fun t => t.pc == 0x0600 && t.cycleDebt + 1 == 3) = true := by decide

/-- B4, `BEQ *+$12`. -/
theorem test_B4 : ran [0xF0, 0x10] { start with pc := 0x06F0, flags := { Flags.cleared with z := true } }
    (fun t => t.pc == 0x0702 && t.cycleDebt + 1 == 4) = true := by decide

/-- B5, `BEQ *+$12`. -/
theorem test_B5 : ran [0xF0, 0x10] { start with pc := 0x06F0 }
    (fun t => t.pc == 0x06F2 && t.cycleDebt + 1 == 2) = true := by decide

/-- B6, `BNE *-3`. -/
theorem test_B6 : ran [0xD0, 0xFB] { start with pc := 0x0605 }
    (fun t => t.pc == 0x0602 && t.cycleDebt + 1 == 3) = true := by decide

/-- B7, `BMI *+2`. -/
theorem test_B7 : ran [0x30, 0x00] { start with flags := { Flags.cleared with n := true } }
    (fun t => t.pc == 0x0602 && t.cycleDebt + 1 == 3) = true := by decide

/-- B8, `BPL *-$7E`. -/
theorem test_B8 : ran [0x10, 0x80] start
    (fun t => t.pc == 0x0582 && t.cycleDebt + 1 == 4) = true := by decide

/-- B9, `BVC *+4`. -/
theorem test_B9 : ran [0x50, 0x02] { start with flags := { Flags.cleared with v := true } }
    (fun t => t.pc == 0x0602 && t.cycleDebt + 1 == 2) = true := by decide

/-- B10, `BVS *+$81`. -/
theorem test_B10 : ran [0x70, 0x7F] { start with flags := { Flags.cleared with v := true } }
    (fun t => t.pc == 0x0681 && t.cycleDebt + 1 == 3) = true := by decide

/-- B11, `BNE *+7`. -/
theorem test_B11 : ran [0xD0, 0x05] { start with pc := 0x06FE }
    (fun t => t.pc == 0x0705 && t.cycleDebt + 1 == 3) = true := by decide

/-- F1, `CLC`. -/
theorem test_F1 : ran [0x18] { start with flags := { Flags.cleared with c := true } }
    (fun t => !t.flags.c && t.cycleDebt + 1 == 2) = true := by decide

/-- F2, `SEC`. -/
theorem test_F2 : ran [0x38] start
    (fun t => t.flags.c && t.cycleDebt + 1 == 2) = true := by decide

/-- F3, `CLI`. -/
theorem test_F3 : ran [0x58] { start with flags := { Flags.cleared with i := true } }
    (fun t => !t.flags.i && t.cycleDebt + 1 == 2) = true := by decide

/-- F4, `SEI`. -/
theorem test_F4 : ran [0x78] start
    (fun t => t.flags.i && t.cycleDebt + 1 == 2) = true := by decide

/-- F5, `CLD`. -/
theorem test_F5 : ran [0xD8] { start with flags := { Flags.cleared with d := true } }
    (fun t => !t.flags.d && t.cycleDebt + 1 == 2) = true := by decide

/-- F6, `SED`. -/
theorem test_F6 : ran [0xF8] start
    (fun t => t.flags.d && t.cycleDebt + 1 == 2) = true := by decide

/-- F7, `CLV`. -/
theorem test_F7 : ran [0xB8] { start with flags := { Flags.cleared with v := true } }
    (fun t => !t.flags.v && t.cycleDebt + 1 == 2) = true := by decide

/-- F8, `NOP`. -/
theorem test_F8 : ran [0xEA] start
    (fun t => t.pc == 0x0601 && t.cycleDebt + 1 == 2) = true := by decide

/-- F9, `BRK`. -/
theorem test_F9 : ran [0x00] { start with mem := bytesAt [(0xFFFE, 0x00), (0xFFFF, 0x07)] }
    (fun t => t.sp == 0xFC && t.pc == 0x0700 && t.flags.i && !t.flags.b && t.load 0x01FF == 0x06 &&
      t.load 0x01FE == 0x02 && t.load 0x01FD == 0x30 && t.cycleDebt + 1 == 7) = true := by decide

/-- F10, `BRK`. -/
theorem test_F10 : ran [0x00]
    { start with flags := { Flags.cleared with n := true, c := true, d := true, i := true }, mem := bytesAt [(0xFFFE, 0x00), (0xFFFF, 0x07)] }
    (fun t => t.sp == 0xFC && t.pc == 0x0700 && t.flags.i && t.flags.d && t.load 0x01FD == 0xBD &&
      t.cycleDebt + 1 == 7) = true := by decide

/-- F11, `RTI`. -/
theorem test_F11 : ran [0x40]
    { start with sp := 0xFC, flags := { Flags.cleared with i := true }, mem := bytesAt [(0x01FD, 0x30), (0x01FE, 0x02), (0x01FF, 0x06)] }
    (fun t => t.sp == 0xFF && t.pc == 0x0602 && !t.flags.n && !t.flags.v && !t.flags.d && !t.flags.i &&
      !t.flags.z && !t.flags.c && !t.flags.b && t.cycleDebt + 1 == 6) = true := by decide

/-- F12, `RTI`. -/
theorem test_F12 : ran [0x40]
    { start with sp := 0xFC, mem := bytesAt [(0x01FD, 0xCF), (0x01FE, 0x34), (0x01FF, 0x12)] }
    (fun t => t.sp == 0xFF && t.pc == 0x1234 && t.flags.n && t.flags.v && t.flags.d && t.flags.i && t.flags.z &&
      t.flags.c && !t.flags.b && t.cycleDebt + 1 == 6) = true := by decide

/-- J3 and J4: the two values of `JMP_IND_PAGE_WRAP` for a pointer at 0x02FF. -/
theorem test_J3_J4 : indPointerHigh true 0x02FF = 0x0200 ∧ indPointerHigh false 0x02FF = 0x0300 := by decide

/-- F13: PC stays at the illegal byte. -/
theorem test_F13 : ran [0x02] start (fun t => t.jammed && t.pc == 0x0600 && t.cycleDebt == 0) = true := by decide

/-- F14. -/
theorem test_F14 : ticks { start with jammed := true, nmiPending := true, irqLine := true }
    (fun t => decide (t = { start with jammed := true, nmiPending := true, irqLine := true })) = true := by decide

/-- S2. -/
theorem test_S2 : resetCore 0xFF { start with a := 0x55, jammed := true, mem := bytesAt [(0xFFFC, 0x34), (0xFFFD, 0x12)] } =
    { start with pc := 0x1234, mem := bytesAt [(0xFFFC, 0x34), (0xFFFD, 0x12)] } := by decide

/-- The memory the rows of table E start with. -/
def vectors : Memory := bytesAt [(0xFFFA, 0x00), (0xFFFB, 0x08), (0xFFFE, 0x00), (0xFFFF, 0x07)]

theorem test_E1 : ticks { start with nmiPending := true, mem := vectors }
    (fun t => t.load 0x01FF == 0x06 && t.load 0x01FE == 0x00 && t.load 0x01FD == 0x20 && t.sp == 0xFC && t.flags.i &&
      t.pc == 0x0800 && t.cycleDebt == 6 && !t.nmiPending) = true := by decide

theorem test_E2 : ticks { start with nmiPending := true, mem := vectors, flags := { Flags.cleared with i := true, c := true } }
    (fun t => t.load 0x01FD == 0x25 && t.pc == 0x0800 && t.flags.i) = true := by decide

theorem test_E3 : ticks { start with irqLine := true, mem := vectors, flags := { Flags.cleared with n := true } }
    (fun t => t.load 0x01FD == 0xA0 && t.pc == 0x0700 && t.flags.i && t.irqLine) = true := by decide

/-- The byte at 0x0600 is 0xEA here: the NOP is fetched. -/
theorem test_E4 : ran [0xEA] { start with irqLine := true, mem := vectors, flags := { Flags.cleared with i := true } }
    (fun t => t.pc == 0x0601 && t.sp == 0xFF) = true := by decide

theorem test_E5 : ticks { start with nmiPending := true, irqLine := true, mem := vectors }
    (fun t => t.load 0x01FD == 0x20 && t.pc == 0x0800 && !t.nmiPending && t.irqLine) = true := by decide

/-- Cells stay in rising order, and writing the fill removes a cell. -/
theorem test_memory_form :
    bytesAt [(0x0200, 0x01), (0x0100, 0x02)] = [(0x0100, 0x02), (0x0200, 0x01)] ∧
    (bytesAt [(0x0200, 0x01), (0x0100, 0x02)]).write 0x0200 0x00 = [(0x0100, 0x02)] := by decide

/-- The memory of the reset state is in canonical form. -/
theorem test_reset_memory_wf : State.reset.mem.wf = true := by decide

/-! Witnesses. -/

/-- The state after an instruction or a tick that completes. -/
def afterExec (i : Instr) (s : State) : State :=
  match exec i s with
  | .next t => t
  | .fault _ => s
  | .refused _ => s

/-- O1: an assigned and an illegal instruction. -/
theorem witness_DecodeInvertsEncode :
    (Instr.jmpInd 0xFFFF).wellFormed = true ∧ (Instr.illegal 0xFF).wellFormed = true := by decide

/-- O2. -/
theorem witness_EncodeInvertsDecode :
    decode [0x6C, 0xFF, 0xFF, 0x00] = .ok (.jmpInd 0xFFFF, [0x00]) ∧ decode [0xFF] = .ok (.illegal 0xFF, []) :=
  ⟨rfl, rfl⟩

/-- O3: its inner hypotheses. -/
theorem witness_OpcodeByteDecidesTheInstruction :
    decode [0xBD, 0x10, 0x20] = .ok (.ldaAbx 0x2010, []) ∧ (Instr.illegal 0x02).mnemonic = .illegal := ⟨rfl, rfl⟩

/-- O5: both ends of the range, 0x0602 - 128 and 0x0602 + 127, and one past each. -/
theorem witness_BranchOperandReachesItsTarget :
    branchOperand 0x0600 0x0582 = some 0x80 ∧ (Instr.bpl 0x80).operand = .rel 0x80 ∧
    branchOperand 0x0600 0x0681 = some 0x7F ∧ branchOperand 0x0600 0x0581 = none ∧
    branchOperand 0x0600 0x0682 = none := by decide

/-- O6, O8, O34, O35, O50, O55: a memory in canonical form; O6: another address. -/
theorem witness_canonical_memory : (bytesAt [(0x0000, 0x01), (0xFFFF, 0x02)]).wf = true ∧ (0xFFFF : Word) ≠ 0x0000 := by
  decide

/-- O7: equal at every address. -/
theorem witness_CanonicalMemoriesThatReadAlikeAreEqual :
    (bytesAt [(0x0100, 0x01)]).wf = true ∧ (Memory.write [] 0x0100 0x01).wf = true ∧
    ∀ a : Word, (bytesAt [(0x0100, 0x01)]).read a = (Memory.write [] 0x0100 0x01).read a :=
  ⟨by decide, by decide, fun _ => rfl⟩

/-- O9: another memory with the same reset vector. -/
theorem witness_ResetEffect : ∀ a : Word, Access.fetch a ∈ resetAccesses →
    (bytesAt [(0x4000, 0x99), (0xFFFC, 0x34), (0xFFFD, 0x12)]).read a =
      State.load { start with mem := bytesAt [(0xFFFC, 0x34), (0xFFFD, 0x12)] } a := by
  intro a ha
  have h : resetAccesses = [.fetch 0xFFFC, .fetch 0xFFFD] := by decide
  rw [h] at ha
  have h' : a = 0xFFFC ∨ a = 0xFFFD := by simpa using ha
  rcases h' with rfl | rfl <;> decide

/-- O11. -/
theorem witness_JammedTickChangesNothing : (start.jam).jammed = true := by decide

/-- The boundary state with NOP, then LDA #$05, at PC. -/
def fetching : State := { start with mem := bytesAt [(0x0600, 0xEA), (0x0601, 0xA9), (0x0602, 0x05)] }

/-- O12, O18 (second clause): an IRQ line not asserted, and one that I masks. -/
theorem witness_StepRunsTheDecodedInstruction :
    fetching.FetchesNext ∧
    decode [fetching.load 0x0600, fetching.load 0x0601, fetching.load 0x0602] = .ok (.nop, [0xA9, 0x05]) ∧
    State.FetchesNext { fetching with irqLine := true, flags := { Flags.cleared with i := true } } ∧
    fetchInstr fetching.mem fetching.pc = .nop := ⟨by decide, rfl, by decide, rfl⟩

/-- O13: the shortest and the longest table word. -/
theorem witness_PlacedWordRuns :
    start.mem.wf = true ∧ decodeTableWord 8 0xEA = some .nop ∧ decodeTableWord 24 0xFFFF6C = some (.jmpInd 0xFFFF) := by
  decide

/-- O15, O16, O17, O24, O35: the three cases of a boundary. -/
theorem witness_BoundaryTickOrder :
    (start.jammed = false ∧ start.cycleDebt = 0) ∧
    ({ start with nmiPending := true, irqLine := true } : State).nmiPending = true ∧
    (({ start with irqLine := true } : State).nmiPending = false ∧ ({ start with irqLine := true } : State).irqLine = true ∧
      ({ start with irqLine := true } : State).flags.i = false) ∧
    (start.nmiPending = false ∧ start.irqLine = false) := by decide

/-- O16: both vectors. -/
theorem witness_InterruptEntryEffect :
    (({ start with nmiPending := true } : State).jammed = false ∧ ({ start with nmiPending := true } : State).cycleDebt = 0 ∧
      ({ start with nmiPending := true } : State).nmiPending = true ∧ (0xFFFA : Word) = 0xFFFA) ∧
    ({ start with irqLine := true } : State).jammed = false ∧ ({ start with irqLine := true } : State).cycleDebt = 0 ∧
    ({ start with irqLine := true } : State).nmiPending = false ∧ ({ start with irqLine := true } : State).irqLine = true ∧
    ({ start with irqLine := true } : State).flags.i = false := by decide

/-- O17, O24: the tick that takes an interrupt. -/
theorem witness_ReturnFromInterruptResumesTheProgram :
    start.mem.wf = true ∧
    step { start with nmiPending := true } = .next (State.takeNmi { start with nmiPending := true }) ∧
    step { start with irqLine := true } = .next (State.takeIrq { start with irqLine := true }) := ⟨by decide, rfl, rfl⟩

/-- O18, first clause: the least and the greatest debt. -/
theorem witness_InstructionOccupiesItsCycles :
    ({ start with cycleDebt := 1 } : State).jammed = false ∧ 0 < ({ start with cycleDebt := 1 } : State).cycleDebt ∧
    0 < ({ start with cycleDebt := 6 } : State).cycleDebt ∧ Instr.nop.mnemonic ≠ .illegal ∧
    Instr.cycles .nop fetching = 2 := by decide

/-- O19, O20, O24, O25, O26: an instruction that completes; it does not transfer control. -/
theorem witness_instruction_completes :
    exec (.ldaAbx 0x12F0) start = .next (afterExec (.ldaAbx 0x12F0) start) ∧
    (Instr.ldaAbx 0x12F0).mnemonic ≠ .illegal ∧ transfersControl (Instr.ldaAbx 0x12F0).mnemonic = false :=
  ⟨rfl, by decide, by decide⟩

/-- O20, second clause: a branch not taken. -/
theorem witness_PcAdvancesByTheLength :
    exec (.beq 0x10) start = .next (afterExec (.beq 0x10) start) ∧ Instr.cls (.beq 0x10) = .branch ∧
    branchCondition .beq start.flags = false := ⟨rfl, by decide, by decide⟩

/-- O21: a boundary tick, and a counting tick at the greatest debt. -/
theorem witness_EveryTickKeepsTheInvariant :
    fetching.Inv ∧ step fetching = .next (afterExec .nop fetching) ∧ State.Inv { start with cycleDebt := 6 } ∧
    step { start with cycleDebt := 6 } = .next { start with cycleDebt := 5 } := ⟨by decide, rfl, by decide, rfl⟩

/-- O22. -/
theorem witness_ResetStateSatisfiesTheInvariant : (bytesAt [(0xFFFC, 0x34), (0xFFFD, 0x12)]).wf = true := by decide

/-- O23: a host that loads a memory, resets, raises an NMI and ticks. -/
theorem witness_InvariantHoldsBetweenHostOperations :
    Reachable 0xFF (State.takeNmi (raiseNmi (resetFrom 0xFF []))) :=
  .next _ _ .step (.next _ _ .raiseNmi (.start [] rfl) rfl) rfl

/-- O26: an address an instruction does not store to, and one a tick does not. -/
theorem witness_MemoryFrame :
    exec (.staAbs 0x0200) start = .next (afterExec (.staAbs 0x0200) start) ∧
    Access.store 0x0201 ∉ instrAccesses (.staAbs 0x0200) start ∧
    step fetching = .next (afterExec .nop fetching) ∧ Access.store 0x0600 ∉ tickAccesses fetching :=
  ⟨rfl, by decide, rfl, by decide⟩

/-- O27: two memories that differ at an address the tick does not fetch. -/
theorem witness_TickReadsOnlyWhatItFetches :
    fetching.mem.wf = true ∧ (fetching.mem.write 0x4000 0x99).wf = true ∧
    ∀ a : Word, Access.fetch a ∈ tickAccesses fetching → (fetching.mem.write 0x4000 0x99).read a = fetching.mem.read a := by
  refine ⟨by decide, by decide, fun a ha => ?_⟩
  have h : tickAccesses fetching = [.fetch 0x0600] := by decide
  rw [h] at ha
  have h' : a = 0x0600 := by simpa using ha
  subst h'
  decide

/-- O29, O30, O36, O38, O39, O43, O44: one instruction of each mnemonic a hypothesis names. -/
theorem witness_mnemonics :
    (Instr.ldaIzy 0x20).mnemonic = .lda ∧ (Instr.ldxZpy 0x10).mnemonic = .ldx ∧ (Instr.ldyAbx 0x1200).mnemonic = .ldy ∧
    (Instr.staIzx 0x20).mnemonic = .sta ∧ (Instr.stxZpy 0xF0).mnemonic = .stx ∧ (Instr.styZpx 0xF0).mnemonic = .sty ∧
    (Instr.andImm 0x0F).mnemonic = .and ∧ (Instr.oraImm 0).mnemonic = .ora ∧ (Instr.eorImm 0).mnemonic = .eor ∧
    (Instr.bitZp 0x10).mnemonic = .bit ∧ (Instr.adcImm 1).mnemonic = .adc ∧ (Instr.sbcImm 1).mnemonic = .sbc ∧
    (Instr.cmpImm 1).mnemonic = .cmp ∧ (Instr.cpxImm 1).mnemonic = .cpx ∧ (Instr.cpyImm 1).mnemonic = .cpy ∧
    (Instr.incZp 0x10).mnemonic = .inc ∧ (Instr.decZp 0x10).mnemonic = .dec := by decide

/-- O38 in both modes; O39's last clause at its least value. -/
theorem witness_AdcEffect_SbcEffect :
    addBinary 0xFF 0x01 false =
      (if ({ start with a := 0xFF } : State).flags.d then decAdc 0xFF (operandByte (.adcImm 0x01) { start with a := 0xFF }) false
        else addBinary 0xFF (operandByte (.adcImm 0x01) { start with a := 0xFF }) false) ∧
    (Instr.adcImm 0x01).mnemonic = .adc ∧
    (-256 : Int) = ((0x00 : Byte).toNat : Int) - (0xFF : Byte).toNat - (1 - (false).toNat) := by decide

/-- The IRQ line asserted, and SP at the top of the stack page. -/
def irqAsserted : State := { start with irqLine := true }

/-- O33: SP at 0xFF, so that the byte pulled is the one at 0x0100, with its bit 2 clear; and SP at 0xFE. -/
theorem witness_PullEffects :
    (0x00 : Byte) = irqAsserted.load (BitVec.ofNat 16 (0x0100 + (irqAsserted.sp.toNat + 1) % 256)) ∧
    BitVec.ofNat 16 (0x0100 + (irqAsserted.sp.toNat + 1) % 256) = 0x0100 ∧
    BitVec.ofNat 16 (0x0100 + ((0xFE : Byte).toNat + 1) % 256) = 0x01FF ∧
    irqAsserted.jammed = false ∧ irqAsserted.irqLine = true ∧ irqAsserted.nmiPending = false ∧
    (0x00 : Byte).getLsbD 2 = false := by decide

/-- Decimal mode with the greatest sum: A = 99, C = 1. -/
def decimalSum : State := { start with a := 0x99, flags := { Flags.cleared with d := true, c := true } }

/-- Decimal mode with the least difference: A = 00, C = 0. -/
def decimalDifference : State := { start with flags := { Flags.cleared with d := true } }

/-- O40: 99 + 99 + 1. -/
theorem witness_DecimalAdditionIsBaseTen :
    (Instr.adcImm 0x99).mnemonic = .adc ∧ decimalSum.flags.d = true ∧ validBcd decimalSum.a ∧
    validBcd (operandByte (.adcImm 0x99) decimalSum) ∧
    199 = bcdValue decimalSum.a + bcdValue (operandByte (.adcImm 0x99) decimalSum) + decimalSum.flags.c.toNat := by decide

/-- O41: 00 - 99 - 1. -/
theorem witness_DecimalSubtractionIsBaseTen :
    (Instr.sbcImm 0x99).mnemonic = .sbc ∧ decimalDifference.flags.d = true ∧ validBcd decimalDifference.a ∧
    validBcd (operandByte (.sbcImm 0x99) decimalDifference) ∧
    (-100 : Int) = (bcdValue decimalDifference.a : Int) - bcdValue (operandByte (.sbcImm 0x99) decimalDifference) -
      (1 - decimalDifference.flags.c.toNat) := by decide

/-- O44, O45: the wraps of the byte a hypothesis names. -/
theorem witness_increments :
    (0x00 : Byte) = BitVec.ofNat 8 ((operandByte (.incZp 0x10) { start with mem := bytesAt [(0x0010, 0xFF)] }).toNat + 1) ∧
    (0xFF : Byte) = BitVec.ofInt 8 ((operandByte (.decZp 0x10) start).toNat - 1) ∧
    (0xFF : Byte) = BitVec.ofInt 8 (start.x.toNat - 1) ∧ (0x01 : Byte) = BitVec.ofNat 8 (start.y.toNat + 1) := by decide

/-- O46: for each shift, the accumulator and a memory operand, and the byte the hypothesis names. -/
theorem witness_ShiftEffects :
    (Instr.aslAcc.mnemonic = .asl ∧ (Instr.aslZp 0x10).mnemonic = .asl) ∧
    (Instr.lsrAcc.mnemonic = .lsr ∧ (Instr.lsrZp 0x10).mnemonic = .lsr) ∧
    (Instr.rolAcc.mnemonic = .rol ∧ (Instr.rolZp 0x10).mnemonic = .rol) ∧
    (Instr.rorAcc.mnemonic = .ror ∧ (Instr.rorZp 0x10).mnemonic = .ror) ∧
    (0x80 : Byte) = BitVec.ofNat 8 ((operandByte .aslAcc { start with a := 0xC0 }).toNat * 2 % 256) ∧
    (0x00 : Byte) = BitVec.ofNat 8 ((operandByte (.lsrZp 0x10) start).toNat / 2) ∧
    (0x00 : Byte) = BitVec.ofNat 8 ((operandByte .rolAcc start).toNat * 2 % 256 + start.flags.c.toNat) ∧
    (0x80 : Byte) = BitVec.ofNat 8 ((operandByte .rorAcc start).toNat / 2 +
      ({ start with flags := { Flags.cleared with c := true } } : State).flags.c.toNat * 128) := by decide

/-- O51: one pair of the list, taken. -/
theorem witness_BranchEffects :
    (Instr.bvs 0x7F, true) ∈ [(Instr.bvc 0x7F, !({ Flags.cleared with v := true } : Flags).v),
      (.bvs 0x7F, ({ Flags.cleared with v := true } : Flags).v)] := by decide

/-- O52, O54: the IRQ line asserted at a core that runs; the pulled image has I clear. -/
theorem witness_irq_after_flag_change :
    irqAsserted.jammed = false ∧ irqAsserted.irqLine = true ∧ irqAsserted.nmiPending = false ∧
    (irqAsserted.load (stackAddr (irqAsserted.sp + 1))).getLsbD 2 = false := by decide

/-- O54: the byte its first clause names. -/
theorem witness_ReturnFromInterruptEffect :
    (0x00 : Byte) = start.load (BitVec.ofNat 16 (0x0100 + (start.sp.toNat + 1) % 256)) := by decide

/-- O57: a form of each clause, with the IMM byte fetched from 0x0601, and a mode O44 and O46 do not have. -/
theorem witness_OperandAccess :
    ((Instr.ldaImm 0x05).operand = .imm 0x05 ∧
      .ldaImm 0x05 = fetchInstr (bytesAt [(0x0600, 0xA9), (0x0601, 0x05)]) 0x0600) ∧
    Instr.rorAcc.operand = .acc ∧
    (Instr.cls (.adcIzy 0x20) = .read ∧ (Instr.adcIzy 0x20).operand.mode ≠ .imm) ∧
    Instr.cls (.staIzx 0x20) = .write ∧ Instr.cls (.incAbx 0x1200) = .rmw := by decide

/-- O56: an illegal byte at PC. -/
theorem witness_IllegalOpcodeJams :
    State.FetchesNext { start with mem := bytesAt [(0x0600, 0x02)] } ∧
    isIllegalOpcode (State.load { start with mem := bytesAt [(0x0600, 0x02)] } 0x0600) = true := by decide

end Sys2Proof.Tests
end

section
/-! The invariant of 10_state.md R49: what one instruction, one tick and one host operation keep of it. -/

namespace Sys2Proof.Machine

/-! One tick, branch by branch (60_exceptions.md R240). -/

theorem step_of_jammed {s : State} (hj : s.jammed = true) : step s = .next s := by
  simp [step, hj]

theorem step_of_owing {s : State} (hj : s.jammed = false) (hd : 0 < s.cycleDebt) : step s = .next s.countDown := by
  simp [step, hj, hd]

theorem step_of_nmi {s : State} (hj : s.jammed = false) (hd : s.cycleDebt = 0) (hn : s.nmiPending = true) :
    step s = .next s.takeNmi := by
  simp [step, hj, hd, hn]

theorem step_of_irq {s : State} (hj : s.jammed = false) (hd : s.cycleDebt = 0) (hn : s.nmiPending = false)
    (hi : s.irqLine = true ∧ s.flags.i = false) : step s = .next s.takeIrq := by
  simp [step, hj, hd, hn, hi]

theorem step_of_fetchesNext {s : State} (h : s.FetchesNext) : step s = exec (fetchInstr s.mem s.pc) s := by
  obtain ⟨hj, hd, hn, hi⟩ := h
  rcases hi with hi | hi <;> simp [step, hj, hd, hn, hi]

/-- A tick is one of five: jammed, counting, the entry of NMI or of IRQ, an instruction (60_exceptions.md R253). -/
theorem step_inversion {s t : State} (ht : step s = .next t) :
    (s.jammed = true ∧ t = s) ∨
    (s.jammed = false ∧ 0 < s.cycleDebt ∧ t = s.countDown) ∨
    (s.jammed = false ∧ s.cycleDebt = 0 ∧ s.nmiPending = true ∧ t = s.takeNmi) ∨
    (s.jammed = false ∧ s.cycleDebt = 0 ∧ s.nmiPending = false ∧ (s.irqLine = true ∧ s.flags.i = false) ∧
      t = s.takeIrq) ∨
    (s.FetchesNext ∧ exec (fetchInstr s.mem s.pc) s = .next t) := by
  have tick_eq {u : State} (hu : step s = .next u) : t = u := Host.Outcome.next.inj (ht.symm.trans hu)
  rcases Bool.eq_false_or_eq_true s.jammed with hj | hj
  · exact .inl ⟨hj, tick_eq (step_of_jammed hj)⟩
  rcases Nat.eq_zero_or_pos s.cycleDebt with hd | hd
  swap
  · exact .inr (.inl ⟨hj, hd, tick_eq (step_of_owing hj hd)⟩)
  rcases Bool.eq_false_or_eq_true s.nmiPending with hn | hn
  · exact .inr (.inr (.inl ⟨hj, hd, hn, tick_eq (step_of_nmi hj hd hn)⟩))
  by_cases hi : s.irqLine = true ∧ s.flags.i = false
  · exact .inr (.inr (.inr (.inl ⟨hj, hd, hn, hi, tick_eq (step_of_irq hj hd hn hi)⟩)))
  · have hf : s.FetchesNext := ⟨hj, hd, hn, by simpa [imp_iff_not_or] using hi⟩
    exact .inr (.inr (.inr (.inr ⟨hf, step_of_fetchesNext hf ▸ ht⟩)))

/-! What no handler does: write the stored flag B, jam the core, or spoil the canonical form of memory. -/

/-- State `t` has the flag B and the jammed mark of `s`, and canonical memory where `s` has it. -/
structure State.Keeps (s t : State) : Prop where
  flagB : t.flags.b = s.flags.b
  jammed : t.jammed = s.jammed
  memWf : s.mem.wf = true → t.mem.wf = true

theorem writeOp_keeps (o : Operand) (v : Byte) (s : State) : s.Keeps (writeOp o v s) :=
  ⟨by simp, by simp, writeOp_wf o v s⟩

theorem jumpTo_keeps (o : Operand) (s : State) : s.Keeps (jumpTo o s) :=
  ⟨by simp, by simp, by simp⟩

theorem pushWord_keeps (s : State) (w : Word) : s.Keeps (s.pushWord w) :=
  ⟨rfl, rfl, fun hw => Memory.wf_write _ _ _ (Memory.wf_write _ _ _ hw)⟩

theorem enterVector_keeps (s : State) (vector returnPc : Word) (b4 : Bool) :
    s.Keeps (s.enterVector vector returnPc b4) :=
  ⟨by simp, by simp, by simpa using entryMemory_wf s returnPc b4⟩

theorem returnFromInterrupt_keeps (s : State) : s.Keeps s.returnFromInterrupt :=
  ⟨by simp [Flags.unpackP], by simp, by simp⟩

theorem branch_keeps (cond : Flags → Bool) (o : Operand) (s : State) : s.Keeps (branch cond o s).1 := by
  rw [branch_fst]
  split
  · exact jumpTo_keeps o s
  · exact ⟨rfl, rfl, id⟩

theorem jsrHandler_keeps (o : Operand) (s : State) : s.Keeps (jsrHandler o s).1 := by
  simp only [jsrHandler, noExtra]
  split
  · obtain ⟨hb, hj, hw⟩ := pushWord_keeps s (s.pc - 1)
    exact ⟨hb, hj, hw⟩
  · exact ⟨rfl, rfl, id⟩

/-- The read-modify-write handlers end with flags other than B. -/
theorem writeOp_setFlags_keeps (o : Operand) (v : Byte) (s : State) (f : Flags) (hf : f.b = s.flags.b) :
    s.Keeps ((writeOp o v s).setFlags f) := by
  obtain ⟨-, hj, hw⟩ := writeOp_keeps o v s
  exact ⟨hf, hj, hw⟩

theorem handlerOf_keeps (m : Mnemonic) (o : Operand) (s : State) : s.Keeps (handlerOf m o s).1 := by
  cases m with
  | lda | ldx | ldy | tax | tay | txa | tya | tsx | txs | pla | plp | and | ora | eor | bit | adc | sbc | cmp | cpx
  | cpy | inx | iny | dex | dey | rts | clc | sec | cli | sei | cld | sed | clv | nop | illegal => exact ⟨rfl, rfl, id⟩
  | sta | stx | sty => exact writeOp_keeps _ _ _
  | inc | dec => exact writeOp_setFlags_keeps _ _ _ _ (by simp [Flags.setZN])
  | asl | lsr | rol | ror => exact writeOp_setFlags_keeps _ _ _ _ rfl
  | pha | php => exact ⟨rfl, rfl, Memory.wf_write _ _ _⟩
  | jmp => exact jumpTo_keeps _ _
  | jsr => exact jsrHandler_keeps _ _
  | bcc | bcs | beq | bne | bmi | bpl | bvc | bvs => exact branch_keeps _ _ _
  | brk => exact enterVector_keeps _ _ _ _
  | rti => exact returnFromInterrupt_keeps _

/-! The cost of an instruction (30_encoding.md R94, R97). -/

theorem readClass_extra_le (f : Byte → State → State) (o : Operand) (s : State) : (readClass f o s).2 ≤ 1 := by
  simp only [readClass]
  split <;> decide

theorem branch_extra_le (cond : Flags → Bool) (o : Operand) (s : State) : (branch cond o s).2 ≤ 2 := by
  rw [branch_snd]
  split
  · split <;> decide
  · decide

/-- No instruction lasts more than 7 cycles: those of 7 report no extra, and those that do have a base of at most 6. -/
theorem handlerOf_cost_le (m : Mnemonic) (mode : Mode) (o : Operand) (s : State) :
    baseCycles m mode + (handlerOf m o s).2 ≤ 7 := by
  cases m with
  | lda | ldx | ldy | and | ora | eor | bit | adc | sbc | cmp | cpx | cpy =>
    exact Nat.add_le_add (b := 6) (by cases mode <;> decide) (readClass_extra_le _ o s)
  | bcc | bcs | beq | bne | bmi | bpl | bvc | bvs =>
    exact Nat.add_le_add (b := 5) (by decide : 2 ≤ 5) (branch_extra_le _ o s)
  | sta | stx | sty | inc | dec | asl | lsr | rol | ror | jmp =>
    exact Nat.add_le_add (b := 7) (by cases mode <;> decide) (Nat.le_refl 0)
  | tax | tay | txa | tya | tsx | txs | pha | php | pla | plp | inx | iny | dex | dey | jsr | rts | clc | sec | cli
  | sei | cld | sed | clv | nop | brk | rti | illegal =>
    exact Nat.add_le_add (b := 7) (Nat.le_of_ble_eq_true rfl) (Nat.le_refl 0)

/-! The invariant, operation by operation. -/

/-- An instruction run on a core that is not jammed keeps the invariant; an illegal opcode jams and owes nothing. -/
theorem exec_keeps_inv {i : Instr} {s t : State} (hinv : s.Inv) (hj : s.jammed = false) (ht : exec i s = .next t) :
    t.Inv := by
  obtain ⟨-, -, hb, hw⟩ := hinv
  by_cases hi : i.mnemonic = .illegal
  · obtain ⟨op, rfl⟩ := mnemonic_illegal i hi
    obtain rfl : _ = t := by simpa [exec_illegal] using ht
    exact ⟨Nat.zero_le _, fun _ => rfl, hb, hw⟩
  · obtain rfl := exec_inversion hi ht
    obtain ⟨hB, hJ, hW⟩ := handlerOf_keeps i.mnemonic i.operand (s.pastInstr i.operand)
    have hcost := handlerOf_cost_le i.mnemonic i.operand.mode i.operand (s.pastInstr i.operand)
    have hrunning := hJ.trans hj
    exact ⟨Nat.sub_le_sub_right hcost 1, by simp [hrunning], hB.trans hb, hW hw⟩

/-- The entry of NMI or IRQ at a core that is not jammed keeps the invariant: 6 cycles are left of its 7. -/
theorem interrupt_keeps_inv {s : State} (vector : Word) (hinv : s.Inv) (hj : s.jammed = false) :
    (s.interrupt vector).Inv := by
  obtain ⟨-, -, hb, hw⟩ := hinv
  exact ⟨by simp, by simp [hj], by simpa using hb, by simpa using entryMemory_wf s s.pc false hw⟩

/-- Every tick keeps the invariant (10_state.md R49). -/
theorem step_keeps_inv {s t : State} (hinv : s.Inv) (ht : step s = .next t) : t.Inv := by
  rcases step_inversion ht with ⟨-, rfl⟩ | ⟨hj, -, rfl⟩ | ⟨hj, -, -, rfl⟩ | ⟨hj, -, -, -, rfl⟩ | ⟨⟨hj, -⟩, hexec⟩
  · exact hinv
  · obtain ⟨hd, -, hb, hw⟩ := hinv
    exact ⟨(Nat.sub_le _ _).trans hd, by simp [hj], hb, hw⟩
  · exact interrupt_keeps_inv (s := { s with nmiPending := false }) nmiVector hinv hj
  · exact interrupt_keeps_inv irqVector hinv hj
  · exact exec_keeps_inv hinv hj hexec

/-- Reset establishes the invariant, whatever the state before (10_state.md R46). -/
theorem resetFrom_inv (sp : Byte) {m : Memory} (hw : m.wf = true) : (resetFrom sp m).Inv :=
  ⟨Nat.zero_le _, fun h => absurd h Bool.false_ne_true, rfl, hw⟩

/-- Every host operation keeps the invariant (60_exceptions.md R245). -/
theorem apply_keeps_inv {sp : Byte} {op : HostOp} {s t : State} (hinv : s.Inv) (ht : op.apply sp s = .next t) :
    t.Inv := by
  have ⟨hd, hjd, hb, hw⟩ := hinv
  cases op with
  | step => exact step_keeps_inv hinv ht
  | reset =>
    obtain rfl := Host.Outcome.next.inj ht
    exact resetFrom_inv sp hw
  | raiseNmi | setIrq level =>
    obtain rfl := Host.Outcome.next.inj ht
    exact hinv
  | write a v =>
    obtain rfl := Host.Outcome.next.inj ht
    exact ⟨hd, hjd, hb, Memory.wf_write _ _ _ hw⟩

/-- Every state the host can reach meets the invariant. -/
theorem reachable_inv {sp : Byte} {s : State} (h : Reachable sp s) : s.Inv := by
  induction h with
  | start m hw => exact resetFrom_inv sp hw
  | next s t op _ ht ih => exact apply_keeps_inv ih ht

/-- Settles O23: the invariant, with canonical memory, holds at the first Reset and every host operation keeps it; where
the stack address lies is a fact of the width of SP. -/
theorem invariantHoldsBetweenHostOperations : Obligations.InvariantHoldsBetweenHostOperations := by
  intro sp s hs
  obtain ⟨hd, hjd, hb, -⟩ := reachable_inv hs
  have hsp : s.sp.toNat < 256 := s.sp.isLt
  have haddr := stackAddr_toNat s.sp
  exact ⟨⟨by omega, haddr, by omega⟩, hd, hjd, hb⟩

end Sys2Proof.Machine
end

section
/-! The effect of `Reset()` (10_state.md R46, 70_reset_and_hazards.md R280). -/

namespace Sys2Proof.Machine

theorem fetchesNext_resetCore (sp : Byte) (s : State) : (resetCore sp s).FetchesNext :=
  ⟨rfl, rfl, rfl, .inl rfl⟩

theorem resetAccesses_eq : resetAccesses = [.fetch 0xFFFC, .fetch 0xFFFD] := by decide

/-- Reset depends on memory through the two bytes of its vector only. -/
theorem resetCore_congr (sp : Byte) (s : State) (m : Memory) (hlo : m.read 0xFFFC = s.load 0xFFFC)
    (hhi : m.read 0xFFFD = s.load 0xFFFD) : resetCore sp { s with mem := m } = { resetCore sp s with mem := m } := by
  have hvec : m.readWord resetVector = s.mem.readWord resetVector := congrArg₂ word hhi hlo
  simp [resetCore, resetFrom, hvec]

/-- Settles O9: the fields are those `resetFrom` writes; memory enters through the reset vector alone. -/
theorem resetEffect : Obligations.ResetEffect := by
  intro sp s
  refine ⟨rfl, rfl, rfl, fetchesNext_resetCore sp s, resetAccesses_eq, fun m hm => ?_⟩
  exact resetCore_congr sp s m (hm _ (by simp [resetAccesses_eq])) (hm _ (by simp [resetAccesses_eq]))

end Sys2Proof.Machine
end

section
/-! The status byte image (10_state.md R37, R38): who pushes it and who loads it. -/

namespace Sys2Proof.Machine

/-- Two bytes down the stack, as an entry counts and as the spec writes it. -/
theorem sub_two_eq (p : Byte) : p - 2 = p - 1 - 1 := by bv_omega

/-- The byte PHP pushes. -/
theorem php_pushes_image (s : State) (hw : s.mem.wf = true) :
    ∃ t, exec .php s = .next t ∧ t.load (stackAddr s.sp) = s.flags.packP true :=
  ⟨_, rfl, Memory.read_write_same s.mem (stackAddr s.sp) (s.flags.packP true) hw⟩

/-- The status byte of an entry lies two below the stack pointer it started with. -/
theorem entryMemory_image (s : State) (returnPc : Word) (b4 : Bool) (hw : s.mem.wf = true) :
    (entryMemory s returnPc b4).read (stackAddr (s.sp - 2)) = s.flags.packP b4 := by
  obtain ⟨-, -, himage⟩ := entryMemory_pushed s returnPc b4 hw
  rwa [sub_two_eq]

theorem brk_pushes_image (s : State) (hw : s.mem.wf = true) :
    ∃ t, exec .brk s = .next t ∧ t.load (stackAddr (s.sp - 2)) = s.flags.packP true :=
  ⟨_, rfl, entryMemory_image (s.pastInstr .imp) _ true hw⟩

/-- A boundary tick at which an NMI is latched, or an IRQ asserted and not masked, pushes the image with break bit 0. -/
theorem interrupt_pushes_image (s : State) (hw : s.mem.wf = true) (hj : s.jammed = false) (hd : s.cycleDebt = 0)
    (h : s.nmiPending = true ∨ s.irqLine = true ∧ s.flags.i = false) :
    ∃ t, step s = .next t ∧ t.load (stackAddr (s.sp - 2)) = s.flags.packP false := by
  have himage := entryMemory_image s s.pc false hw
  rcases Bool.eq_false_or_eq_true s.nmiPending with hn | hn
  · exact ⟨_, step_of_nmi hj hd hn, by simpa using himage⟩
  · exact ⟨_, step_of_irq hj hd hn (h.resolve_left (by simp [hn])), by simpa using himage⟩

/-- Settles O35: the image's bits are those of its sum; PHP and an entry store it where the stack pointer says, and PLP
and RTI load it from there. -/
theorem statusByteImage : Obligations.StatusByteImage := by
  refine ⟨fun f b4 => ?_, fun f v => rfl, fun s hw => ⟨php_pushes_image s hw, brk_pushes_image s hw, ⟨_, rfl, rfl⟩,
    ⟨_, rfl, rfl⟩, interrupt_pushes_image s hw⟩⟩
  obtain ⟨h7, h6, h5, h4, h3, h2, h1, h0⟩ := f.packP_bits b4
  exact ⟨by simp [Flags.packP], h7, h6, h5, h4, h3, h2, h1, h0, rfl⟩

end Sys2Proof.Machine
end

section
/-! The Bus contract (20_memory.md R51): what a store changes and what it leaves. -/

namespace Sys2Proof.Machine

/-- Settles O6: a store is a `Memory.write` of the memory field alone, so the read-over-write laws of canonical memory
give the fetches. Without the canonical form an older cell could hide the new one. -/
theorem storeThenFetch : Obligations.StoreThenFetch := by
  intro s a v hw
  have hsame : (s.store a v).load a = v := Memory.read_write_same s.mem a v hw
  have hother : ∀ b : Word, b ≠ a → (s.store a v).load b = s.load b := fun b hb =>
    Memory.read_write_ne s.mem a b v hb
  have hcanonical : (s.store a v).mem.wf = true := Memory.wf_write s.mem a v hw
  exact ⟨hsame, hother, hcanonical, rfl⟩

end Sys2Proof.Machine
end

section
/-! The opcode byte and its row (30_encoding.md R80 to R84, R87, R95, R99): the row fixes opcode, mnemonic and mode, and
with them how many operand bytes are read. -/

namespace Sys2Proof

/-- How many operand bytes a format reads (R81 to R83). -/
def Form.operandBytes : Form → Nat
  | .f1 _ => 0
  | .f2 _ => 1
  | .f3 _ => 2

/-- The instruction of a format when these two bytes follow the opcode; it uses as many of them as it reads. -/
def Form.instr : Form → Byte → Byte → Instr
  | .f1 i, _, _ => i
  | .f2 k, b1, _ => k b1
  | .f3 k, b1, b2 => k (word b2 b1)

theorem decode_eq_instr (op b1 b2 : Byte) (rest : List Byte) :
    decode (op :: b1 :: b2 :: rest) =
      .ok ((opcodeForm op).instr b1 b2, (b1 :: b2 :: rest).drop (opcodeForm op).operandBytes) := by
  simp only [decode]
  cases opcodeForm op <;> rfl

theorem fetchInstr_eq_instr (m : Machine.Memory) (pc : Word) :
    Machine.fetchInstr m pc = (opcodeForm (m.read pc)).instr (m.read (pc + 1)) (m.read (pc + 1 + 1)) := by
  unfold Machine.fetchInstr
  cases opcodeForm (m.read pc) <;> rfl

/-- Two instructions of one row. -/
structure Instr.SameRow (i j : Instr) : Prop where
  opcode : i.opcode = j.opcode
  mnemonic : i.mnemonic = j.mnemonic
  mode : i.operand.mode = j.operand.mode

/-- The operand bytes go into the instruction's operand and nowhere else. -/
def Form.CarriesOperand : Form → Prop
  | .f1 i => i.operand.bytes = []
  | .f2 k => ∀ b c : Byte, (k b).operand.bytes = [b] ∧ (k b).SameRow (k c)
  | .f3 k => ∀ w v : Word, (k w).operand.bytes = [lo8 w, hi8 w] ∧ (k w).SameRow (k v)

theorem opcodeForm_carriesOperand (op : Byte) : (opcodeForm op).CarriesOperand := by
  simp only [opcodeForm, opcodeRow0, opcodeRow1, opcodeRow2, opcodeRow3, opcodeRow4, opcodeRow5, opcodeRow6, opcodeRow7,
    opcodeRow8, opcodeRow9, opcodeRowA, opcodeRowB, opcodeRowC, opcodeRowD, opcodeRowE, opcodeRowF]
  split <;> split <;> first | exact fun _ _ => ⟨rfl, rfl, rfl, rfl⟩ | rfl

theorem Form.CarriesOperand.sameRow {f : Form} (h : f.CarriesOperand) (b1 b2 c1 c2 : Byte) :
    (f.instr b1 b2).SameRow (f.instr c1 c2) := by
  cases f with
  | f1 i => exact ⟨rfl, rfl, rfl⟩
  | f2 k => exact (h b1 c1).2
  | f3 k => exact (h (word b2 b1) (word c2 c1)).2

theorem Form.CarriesOperand.bytes {f : Form} (h : f.CarriesOperand) (b1 b2 : Byte) :
    (f.instr b1 b2).operand.bytes = [b1, b2].take f.operandBytes := by
  cases f with
  | f1 i => exact h
  | f2 k => exact (h b1 b1).1
  | f3 k => simpa [Form.instr, Form.operandBytes] using (h (word b2 b1) (word b2 b1)).1

theorem Operand.length_bytes (o : Operand) : o.bytes.length = o.mode.operandBytes := by
  cases o <;> rfl

theorem Form.CarriesOperand.operandBytes {f : Form} (h : f.CarriesOperand) (b1 b2 : Byte) :
    (f.instr b1 b2).operand.mode.operandBytes = f.operandBytes := by
  rw [← Operand.length_bytes, h.bytes]
  cases f <;> rfl

/-- The instruction an opcode byte decodes to carries that byte. -/
theorem opcode_opcodeForm (op b1 b2 : Byte) : ((opcodeForm op).instr b1 b2).opcode = op := by
  have hgrid : ∀ op : Byte, ((opcodeForm op).instr 0 0).opcode = op := by decide
  rw [((opcodeForm_carriesOperand op).sameRow b1 b2 0 0).opcode, hgrid]

/-- The list of R99 is what the grid of R98 leaves unassigned. -/
theorem illegalOpcodes_eq_filter : illegalOpcodes =
    ((List.range 256).map (BitVec.ofNat 8)).filter
      fun op => decide (((opcodeForm op).instr 0 0).mnemonic = .illegal) := by
  decide

theorem mnemonic_opcodeForm_eq_illegal (op b1 b2 : Byte) :
    ((opcodeForm op).instr b1 b2).mnemonic = .illegal ↔ isIllegalOpcode op = true := by
  have hop : op ∈ (List.range 256).map (BitVec.ofNat 8) :=
    List.mem_map.mpr ⟨op.toNat, by simpa using op.isLt, by simp⟩
  rw [((opcodeForm_carriesOperand op).sameRow b1 b2 0 0).mnemonic, isIllegalOpcode, illegalOpcodes_eq_filter]
  simp [-List.mem_map, hop]

namespace Machine

/-- An illegal instruction is one byte long, jams, and leaves PC where it was (R95, 49_flag_system.md R229). -/
theorem illegal_jams_in_place (i : Instr) (hi : i.mnemonic = .illegal) :
    i.length = 1 ∧ ∀ s : State, ∃ t, exec i s = .next t ∧ t.jammed = true ∧ t.pc = s.pc := by
  obtain ⟨op, rfl⟩ := mnemonic_illegal i hi
  exact ⟨rfl, fun s => ⟨_, exec_illegal op s, rfl, rfl⟩⟩

/-- Settles O3: the bytes decode to the instruction of the opcode's row, and the operand bytes reach its operand alone. -/
theorem opcodeByteDecidesTheInstruction : Obligations.OpcodeByteDecidesTheInstruction := by
  intro op b1 b2 rest
  have hrow := opcodeForm_carriesOperand op
  refine ⟨(opcodeForm op).instr b1 b2, ?_, opcode_opcodeForm op b1 b2, rfl, fun c1 c2 j r hj => ?_,
    mnemonic_opcodeForm_eq_illegal op b1 b2, illegal_jams_in_place _⟩
  · rw [decode_eq_instr, Instr.length, hrow.operandBytes, Nat.add_sub_cancel_left]
  · rw [decode_eq_instr] at hj
    obtain ⟨rfl, -⟩ := Prod.mk.inj (Except.ok.inj hj)
    obtain ⟨-, hmnemonic, hmode⟩ := hrow.sameRow c1 c2 b1 b2
    exact ⟨by rw [Instr.length, Instr.length, hmode], hmnemonic, hmode⟩

end Machine

end Sys2Proof
end

section
/-! The addressing modes in numbers (30_encoding.md R88, R91, R92). -/

namespace Sys2Proof

theorem eq_ofNat_of_toNat_eq {w : Word} {n : Nat} (h : w.toNat = n) : w = BitVec.ofNat 16 n := by
  simp [← h]

theorem zext16_eq (b : Byte) : zext16 b = BitVec.ofNat 16 b.toNat :=
  eq_ofNat_of_toNat_eq (zext16_toNat b)

theorem zext16_add (b c : Byte) : zext16 (b + c) = BitVec.ofNat 16 ((b.toNat + c.toNat) % 256) := by
  rw [zext16_eq, BitVec.toNat_add]

theorem sext16_eq (b : Byte) : sext16 b = BitVec.ofInt 16 b.toInt := by
  rw [← sext16_toInt, BitVec.ofInt_toInt]

/-- Two addresses lie in different pages when their numbers divided by 256 differ (R91). -/
theorem page_bne (u v : Word) : (page u != page v) = decide (u.toNat / 256 ≠ v.toNat / 256) := by
  simp only [page, ← hi8_toNat, ne_eq, BitVec.toNat_inj, decide_not]
  rfl

namespace Machine

/-! Sums of a base and an index, modulo 65536. -/

theorem indexed_zext16 (base : Word) (b : Byte) :
    indexed base (zext16 b) =
      { ea := some (BitVec.ofNat 16 (base.toNat + b.toNat)),
        crossed := decide ((base.toNat + b.toNat) % 65536 / 256 ≠ base.toNat / 256) } := by
  have hsum : (base + zext16 b).toNat = (base.toNat + b.toNat) % 65536 := by rw [BitVec.toNat_add, zext16_toNat]
  have hea : base + zext16 b = BitVec.ofNat 16 (base.toNat + b.toNat) :=
    BitVec.eq_of_toNat_eq (by rw [hsum, BitVec.toNat_ofNat])
  rw [indexed, page_bne, hsum, hea]

theorem indexed_sext16 (m : Int) (b : Byte) :
    indexed (BitVec.ofInt 16 m) (sext16 b) =
      { ea := some (BitVec.ofInt 16 (m + b.toInt)),
        crossed := decide ((m + b.toInt) % 65536 / 256 ≠ m % 65536 / 256) } := by
  have hpage (k : Int) : ((BitVec.ofInt 16 k).toNat / 256 : Nat) = k % 65536 / 256 := by
    rw [BitVec.toNat_ofInt]
    omega
  simp only [indexed, sext16_eq, ← BitVec.ofInt_add, page_bne, ← hpage, ne_eq, Nat.cast_inj]

/-! Pointers. -/

/-- The word at two addresses is the number of its two bytes. -/
theorem word_load_toNat (s : State) (lo hi : Nat) :
    (word (s.load (BitVec.ofNat 16 hi)) (s.load (BitVec.ofNat 16 lo))).toNat = wordAt s lo hi := by
  rw [word_toNat, wordAt]
  omega

/-- The second byte of a zero-page pointer is in page zero too (R92). -/
theorem zpPointer_toNat (s : State) (z : Byte) :
    (s.zpPointer z).toNat = wordAt s z.toNat ((z.toNat + 1) % 256) := by
  rw [State.zpPointer, zpPointerHigh, zext16_add, zext16_eq]
  exact word_load_toNat s _ _

theorem indPointerHigh_eq (wrap : Bool) (w : Word) :
    indPointerHigh wrap w =
      BitVec.ofNat 16 (if wrap then w.toNat / 256 * 256 + (w.toNat % 256 + 1) % 256 else w.toNat + 1) := by
  have hnext : w + 1 = BitVec.ofNat 16 (w.toNat + 1) := by simp [BitVec.ofNat_add]
  have hlast : lo8 w = 0xFF ↔ w.toNat % 256 = 255 := by
    rw [← lo8_toNat, ← BitVec.toNat_inj]
    rfl
  cases wrap with
  | false => simpa [indPointerHigh] using hnext
  | true =>
    rw [indPointerHigh, if_pos rfl]
    by_cases h : w.toNat % 256 = 255
    · have hfirst : (word (hi8 w) 0x00).toNat = w.toNat / 256 * 256 + (w.toNat % 256 + 1) % 256 := by
        simp [word_toNat, hi8_toNat, h]
      rw [if_pos ⟨hlast.mpr h, rfl⟩, eq_ofNat_of_toNat_eq hfirst]
    · have hsame : w.toNat / 256 * 256 + (w.toNat % 256 + 1) % 256 = w.toNat + 1 := by omega
      rw [if_neg fun hwrap => h (hlast.mp hwrap.1), hsame, hnext]

theorem pastInstr_pc_toNat (s : State) (o : Operand) :
    (s.pastInstr o).pc.toNat = (s.pc.toNat + 1 + o.mode.operandBytes) % 65536 := by
  rw [State.pastInstr_pc, BitVec.toNat_add, BitVec.toNat_ofNat, Nat.add_mod_mod, Nat.add_assoc]

theorem resolve_imm (s : State) (b : Byte) :
    resolve (.imm b) (s.pastInstr (.imm b)) = { ea := some (s.pc + 1), crossed := false } := by
  have hpc : (s.pastInstr (.imm b)).pc - 1 = s.pc + 1 := by
    simp only [State.pastInstr_pc, Operand.mode, Mode.operandBytes]
    bv_omega
  rw [resolve, hpc, direct]

theorem resolve_rel (s : State) (b : Byte) :
    resolve (.rel b) (s.pastInstr (.rel b)) =
      { ea := some (BitVec.ofInt 16 (s.pc.toNat + 2 + b.toInt)),
        crossed := decide (((s.pc.toNat : Int) + 2 + b.toInt) % 65536 / 256 ≠
          ((s.pc.toNat : Int) + 2) % 65536 / 256) } := by
  have hpc : (s.pastInstr (.rel b)).pc = BitVec.ofInt 16 (s.pc.toNat + 2) := by
    simp [BitVec.ofInt_add, Operand.mode, Mode.operandBytes]
  rw [resolve, hpc, indexed_sext16]

theorem resolve_ind (s : State) (w : Word) :
    resolve (.ind w) s =
      { ea := some (BitVec.ofNat 16 (wordAt s w.toNat
          (if Config.jmpIndPageWrap then w.toNat / 256 * 256 + (w.toNat % 256 + 1) % 256 else w.toNat + 1))),
        crossed := false } := by
  have h := word_load_toNat s w.toNat
    (if Config.jmpIndPageWrap then w.toNat / 256 * 256 + (w.toNat % 256 + 1) % 256 else w.toNat + 1)
  rw [← indPointerHigh_eq, ← eq_ofNat_of_toNat_eq (rfl : w.toNat = _)] at h
  rw [resolve, direct, eq_ofNat_of_toNat_eq h]

theorem resolve_izx (s : State) (b : Byte) :
    resolve (.izx b) s =
      { ea := some (BitVec.ofNat 16 (wordAt s ((b.toNat + s.x.toNat) % 256) ((b.toNat + s.x.toNat + 1) % 256))),
        crossed := false } := by
  have h := zpPointer_toNat s (b + s.x)
  rw [BitVec.toNat_add, Nat.mod_add_mod] at h
  rw [resolve, direct, eq_ofNat_of_toNat_eq h]

theorem resolve_izy (s : State) (b : Byte) :
    resolve (.izy b) s =
      { ea := some (BitVec.ofNat 16 (wordAt s b.toNat ((b.toNat + 1) % 256) + s.y.toNat)),
        crossed := decide ((wordAt s b.toNat ((b.toNat + 1) % 256) + s.y.toNat) % 65536 / 256 ≠
          wordAt s b.toNat ((b.toNat + 1) % 256) / 256) } := by
  rw [resolve, indexed_zext16, zpPointer_toNat]

/-- Settles O28, mode by mode; moving PC past the instruction changes neither memory nor the index registers. -/
theorem resolveGivesTheEffectiveAddress : Obligations.ResolveGivesTheEffectiveAddress := by
  intro s b w
  refine ⟨pastInstr_pc_toNat s, rfl, rfl, resolve_imm s b, ?zp, ?zpx, ?zpy, rfl, ?abx, ?aby, resolve_rel s b,
    resolve_ind _ w, resolve_izx _ b, resolve_izy _ b⟩
  case zp => rw [resolve, zext16_eq, direct]
  case zpx => rw [resolve, zext16_add, direct, State.pastInstr_x]
  case zpy => rw [resolve, zext16_add, direct, State.pastInstr_y]
  case abx => rw [resolve, indexed_zext16, State.pastInstr_x]
  case aby => rw [resolve, indexed_zext16, State.pastInstr_y]

end Machine

end Sys2Proof
end

section
/-! The classes of 30_encoding.md R96: the operands a class has, what its handlers report and store, and its cycles (R94,
R97). -/

namespace Sys2Proof.Machine

/-- The classes an operand comes in: an instruction without an effective address is of class `other`, IMM belongs to
reading and REL to branches. -/
def operandAllows : Operand → Class → Bool
  | .imp, c | .acc, c => c = .other
  | .imm _, c => c = .read
  | .rel _, c => c = .branch
  | .zp _, c | .zpx _, c | .zpy _, c | .abs _, c | .abx _, c | .aby _, c | .ind _, c | .izx _, c | .izy _, c =>
    c ≠ .branch

theorem operand_allows_cls (i : Instr) : operandAllows i.operand (Instr.cls i) = true := by
  cases i <;> rfl

/-- What the handler of a mnemonic does in the class: the extra cycles it reports, and the memory it leaves if its class
is one of those that access their operand. -/
def HandlesAs (mn : Mnemonic) : Class → Prop
  | .read => ∀ o s, (handlerOf mn o s).2 = (if (resolve o s).crossed then 1 else 0) ∧ (handlerOf mn o s).1.mem = s.mem
  | .write | .rmw => ∀ o s, (handlerOf mn o s).2 = 0 ∧ ∃ v, (handlerOf mn o s).1.mem = (writeOp o v s).mem
  | .branch => ∀ o s, (handlerOf mn o s).2 =
      if branchCondition mn s.flags then (if (resolve o s).crossed then 2 else 1) else 0
  | .other => ∀ o s, (handlerOf mn o s).2 = 0

theorem handlesAs_cls (i : Instr) : HandlesAs i.mnemonic (Instr.cls i) := by
  unfold Instr.cls
  cases i.mnemonic with
  | lda | ldx | ldy | adc | sbc | and | ora | eor | cmp | cpx | cpy | bit => exact fun _ _ => ⟨rfl, rfl⟩
  | sta | stx | sty | inc | dec => exact fun _ _ => ⟨rfl, _, rfl⟩
  | asl | lsr | rol | ror =>
    dsimp only
    split
    · exact fun _ _ => rfl
    · exact fun _ _ => ⟨rfl, _, rfl⟩
  | bcc | bcs | beq | bne | bmi | bpl | bvc | bvs => exact branch_snd _
  | _ => exact fun _ _ => rfl

/-- The extra cycles of R94 are those the handler reports: only in REL mode could a mode outside ABX, ABY and IZY report
a page cross, and no instruction of class `read` has it. -/
theorem handlerOf_extra (i : Instr) (s : State) :
    (handlerOf i.mnemonic i.operand (s.pastInstr i.operand)).2 = Instr.extraCycles i s := by
  have hhandles := handlesAs_cls i
  have hallows := operand_allows_cls i
  unfold Instr.extraCycles Instr.resolved
  generalize Instr.cls i = c at *
  cases c with
  | read =>
    obtain ⟨hextra, -⟩ := hhandles i.operand (s.pastInstr i.operand)
    rw [hextra]
    generalize i.operand = o at *
    cases o with
    | rel b => contradiction
    | _ => rfl
  | branch => exact hhandles _ _
  | write | rmw => exact (hhandles _ _).1
  | other => exact hhandles _ _

theorem extraCycles_eq (i : Instr) (s : State) :
    Instr.extraCycles i s =
      (if Instr.cls i = .read ∧ i.operand.mode ∈ [Mode.abx, Mode.aby, Mode.izy] ∧ (Instr.resolved i s).crossed = true
        then 1
      else if Instr.cls i = .branch ∧ branchCondition i.mnemonic s.flags = true then
        (if (Instr.resolved i s).crossed = true then 2 else 1)
      else 0) := by
  unfold Instr.extraCycles
  cases Instr.cls i with
  | read => cases i.operand.mode <;> simp
  | branch => simp
  | write | rmw | other => rfl

theorem two_le_baseCycles {i : Instr} (h : i.mnemonic ≠ .illegal) : 2 ≤ baseCycles i.mnemonic i.operand.mode := by
  cases i with
  | illegal op => exact absurd rfl h
  | _ => exact Nat.le_of_ble_eq_true rfl

/-- Settles O19: the debt is the base count plus what the handler reports, less one. -/
theorem debtIsBasePlusExtraLessOne : Obligations.DebtIsBasePlusExtraLessOne := by
  intro i s t hi ht
  have hbase := two_le_baseCycles hi
  have hcost := handlerOf_cost_le i.mnemonic i.operand.mode i.operand (s.pastInstr i.operand)
  have hdebt := congrArg State.cycleDebt (exec_inversion hi ht)
  rw [handlerOf_extra] at hcost
  rw [State.setDebt_cycleDebt, handlerOf_extra] at hdebt
  exact ⟨by omega, Nat.le_add_right_of_le hbase, hcost, extraCycles_eq i s⟩

end Sys2Proof.Machine
end

section
/-! Operand access by class and mode (30_encoding.md R93, 20_memory.md R66). -/

namespace Sys2Proof.Machine

/-- The accesses of a class to the addresses of its operand. -/
def classAccesses : Class → List Word → List Access
  | .read, as => as.map .fetch
  | .write, as => as.map .store
  | .rmw, as => as.map .fetch ++ as.map .store
  | .branch, _ | .other, _ => []

theorem handlerAccesses_eq {i : Instr} (s : State) (h : Instr.cls i ≠ .other) :
    handlerAccesses i s = classAccesses (Instr.cls i) (memoryOperand i.operand s) := by
  unfold Instr.cls at h ⊢
  unfold handlerAccesses
  generalize i.mnemonic = mn at *
  cases mn with
  | lda | ldx | ldy | adc | sbc | and | ora | eor | cmp | cpx | cpy | bit | sta | stx | sty | inc | dec
  | bcc | bcs | beq | bne | bmi | bpl | bvc | bvs => rfl
  | asl | lsr | rol | ror =>
    rw [if_neg fun hacc => h (if_pos hacc)]
    rfl
  | _ => exact absurd rfl h

/-- The accumulator instructions. -/
theorem operand_acc {i : Instr} (h : i.operand = .acc) : i = .aslAcc ∨ i = .lsrAcc ∨ i = .rolAcc ∨ i = .rorAcc := by
  cases i with
  | aslAcc | lsrAcc | rolAcc | rorAcc => simp
  | _ => exact Operand.noConfusion h

/-- An instruction whose class accesses its operand has an effective address, and but for IMM its operand byte is the
byte there. -/
theorem operand_access {i : Instr} (s : State) (hother : Instr.cls i ≠ .other) (himm : ∀ b : Byte, i.operand ≠ .imm b) :
    ∃ ea, address i s = some ea ∧ operandByte i s = s.load ea ∧
      handlerAccesses i (s.pastInstr i.operand) = classAccesses (Instr.cls i) [ea] := by
  have hallows := operand_allows_cls i
  cases hea : address i s with
  | none =>
    rcases (resolve_ea_none _ _).mp hea with ho | ho
    all_goals
      rw [ho] at hallows
      exact absurd (of_decide_eq_true hallows) hother
  | some ea =>
    refine ⟨ea, rfl, readOp_ea _ _ ea hea himm, ?_⟩
    have hmem : memoryOperand i.operand (s.pastInstr i.operand) = [ea] := by
      unfold memoryOperand
      split
      · next b ho => exact absurd ho (himm b)
      · exact congrArg Option.toList hea
    rw [handlerAccesses_eq _ hother, hmem]

/-- What memory is after an instruction: what its handler left. -/
theorem exec_mem (i : Instr) (s : State) :
    ∃ t, exec i s = .next t ∧ t.mem = (handlerOf i.mnemonic i.operand (s.pastInstr i.operand)).1.mem := by
  by_cases hi : i.mnemonic = .illegal
  · obtain ⟨op, rfl⟩ := mnemonic_illegal i hi
    exact ⟨_, exec_illegal op s, rfl⟩
  · exact ⟨_, exec_eq_run i s hi, rfl⟩

theorem writeOp_mem {o : Operand} {s : State} {ea : Word} (h : (resolve o s).ea = some ea) (v : Byte) :
    (writeOp o v s).mem = s.mem.write ea v := by
  simp [writeOp, h]

/-- The byte an IMM instruction carries is the one after its opcode. -/
theorem fetchInstr_imm {m : Memory} {pc : Word} {b : Byte} (h : (fetchInstr m pc).operand = .imm b) :
    m.read (pc + 1) = b := by
  have hrow := opcodeForm_carriesOperand (m.read pc)
  have hbytes := hrow.bytes (m.read (pc + 1)) (m.read (pc + 1 + 1))
  rw [← fetchInstr_eq_instr, h] at hbytes
  generalize (opcodeForm (m.read pc)).operandBytes = n at hbytes
  cases n with
  | zero => contradiction
  | succ n => exact (List.cons.inj hbytes).1.symm

theorem imm_access {i : Instr} {b : Byte} (s : State) (h : i.operand = .imm b) :
    Instr.cls i = .read ∧ operandByte i s = b ∧ handlerAccesses i (s.pastInstr i.operand) = [] ∧
      address i s = some (s.pc + 1) ∧ (i = fetchInstr s.mem s.pc → s.load (s.pc + 1) = b) := by
  have hallows := operand_allows_cls i
  rw [h] at hallows
  have hcls : Instr.cls i = .read := of_decide_eq_true hallows
  refine ⟨hcls, ?byte, ?accesses, ?address, ?fetched⟩
  case byte =>
    rw [operandByte, h]
    rfl
  case accesses =>
    rw [handlerAccesses_eq _ (by simp [hcls]), hcls, h]
    rfl
  case address => rw [address, Instr.resolved, h, resolve_imm]
  case fetched =>
    rintro rfl
    exact fetchInstr_imm h

theorem acc_access {i : Instr} (s : State) (h : i.operand = .acc) :
    operandByte i s = s.a ∧ handlerAccesses i (s.pastInstr i.operand) = [] ∧
      ∃ t, exec i s = .next t ∧ t = completed i s { s with a := t.a, flags := t.flags } := by
  rcases operand_acc h with rfl | rfl | rfl | rfl <;> exact ⟨rfl, rfl, _, rfl, rfl⟩

theorem read_access {i : Instr} (s : State) (hc : Instr.cls i = .read) (himm : ∀ b : Byte, i.operand ≠ .imm b) :
    ∃ ea t, address i s = some ea ∧ operandByte i s = s.load ea ∧
      handlerAccesses i (s.pastInstr i.operand) = [.fetch ea] ∧ exec i s = .next t ∧ t.mem = s.mem := by
  obtain ⟨ea, hea, hbyte, haccesses⟩ := operand_access s (by simp [hc]) himm
  obtain ⟨t, ht, hmem⟩ := exec_mem i s
  have hhandles := handlesAs_cls i
  rw [hc] at haccesses hhandles
  obtain ⟨-, hkeeps⟩ := hhandles i.operand (s.pastInstr i.operand)
  exact ⟨ea, t, hea, hbyte, haccesses, ht, hmem.trans hkeeps⟩

/-- A store or a read-modify-write instruction leaves memory with one byte written, the one at its effective address. -/
theorem write_access {i : Instr} (s : State) (hc : Instr.cls i = .write ∨ Instr.cls i = .rmw) :
    ∃ ea v t, address i s = some ea ∧ operandByte i s = s.load ea ∧
      handlerAccesses i (s.pastInstr i.operand) = classAccesses (Instr.cls i) [ea] ∧
      exec i s = .next t ∧ t.mem = s.mem.write ea v := by
  have hother : Instr.cls i ≠ .other := by rcases hc with hc | hc <;> simp [hc]
  have himm (b : Byte) (ho : i.operand = .imm b) : False := by
    have hread := (imm_access s ho).1
    simp [hread] at hc
  obtain ⟨ea, hea, hbyte, haccesses⟩ := operand_access s hother himm
  obtain ⟨t, ht, hmem⟩ := exec_mem i s
  have hhandles := handlesAs_cls i
  have hwrites : ∃ v, (handlerOf i.mnemonic i.operand (s.pastInstr i.operand)).1.mem =
      (writeOp i.operand v (s.pastInstr i.operand)).mem := by
    rcases hc with hc | hc
    all_goals
      rw [hc] at hhandles
      exact (hhandles _ _).2
  obtain ⟨v, hv⟩ := hwrites
  exact ⟨ea, v, t, hea, hbyte, haccesses, ht, hmem.trans (hv.trans (writeOp_mem hea v))⟩

/-- Settles O57, by mode for IMM and ACC and by class for the modes that name a byte of memory. -/
theorem operandAccess : Obligations.OperandAccess := by
  intro i s
  refine ⟨fun b h => imm_access s h, acc_access s, read_access s, fun hc => ?write, fun hc => ?rmw⟩
  case write =>
    obtain ⟨ea, v, t, hea, -, haccesses, ht, hmem⟩ := write_access s (.inl hc)
    rw [hc] at haccesses
    exact ⟨ea, v, t, hea, haccesses, ht, hmem⟩
  case rmw =>
    have h := write_access s (.inr hc)
    rwa [hc] at h

end Sys2Proof.Machine
end

section
/-! The rows of a mnemonic, read off the opcode grid (30_encoding.md R98), and the instructions after which PC is past the
instruction's bytes (10_state.md R27). -/

namespace Sys2Proof

/-- The instruction of an opcode byte's row whose operand bytes are 0. -/
def gridInstr (op : Byte) : Instr := (opcodeForm op).instr 0 0

theorem sameRow_gridInstr {i : Instr} (h : i.mnemonic ≠ .illegal) : i.SameRow (gridInstr i.opcode) := by
  cases i with
  | illegal op => exact absurd rfl h
  | _ =>
    dsimp only [Instr.opcode]
    exact ⟨rfl, rfl, rfl⟩

namespace Machine

/-- The row of an instruction: opcode byte, mode, length in bytes, base cycles. -/
def rowOf (i : Instr) : Byte × Mode × Nat × Nat :=
  (i.opcode, i.operand.mode, i.length, baseCycles i.mnemonic i.operand.mode)

theorem rowOf_eq_of_sameRow {i j : Instr} (h : i.SameRow j) : rowOf i = rowOf j := by
  obtain ⟨hopcode, hmnemonic, hmode⟩ := h
  simp only [rowOf, Instr.length, hopcode, hmnemonic, hmode]

/-- The operand never decides a row, so the rows of an assigned mnemonic are those the 256 opcode bytes give it. -/
theorem rowsOf_of_grid {mn : Mnemonic} {rows : List (Byte × Mode × Nat × Nat)}
    (h : mn ≠ .illegal ∧ (∀ op : Byte, (gridInstr op).mnemonic = mn → rowOf (gridInstr op) ∈ rows) ∧
      ∀ r ∈ rows, (gridInstr r.1).mnemonic = mn ∧ rowOf (gridInstr r.1) = r) : RowsOf mn rows := by
  obtain ⟨hmn, hlisted, hassigned⟩ := h
  refine ⟨fun i hi => ?_, fun r hr => ⟨gridInstr r.1, hassigned r hr⟩⟩
  have hrow := sameRow_gridInstr (hi ▸ hmn)
  have hmem := hlisted i.opcode (hrow.mnemonic.symm.trans hi)
  rwa [← rowOf_eq_of_sameRow hrow] at hmem

/-- An instruction whose handler leaves PC past its bytes answers what the handler did, and owes the cycles of R94. -/
theorem exec_eq_completed {i : Instr} {s t : State} {mn : Mnemonic} (hi : i.mnemonic = mn) (hmn : mn ≠ .illegal)
    (hhandler : (handlerOf mn i.operand (s.pastInstr i.operand)).1 = t.setPc (s.pc + BitVec.ofNat 16 i.length)) :
    exec i s = .next (completed i s t) := by
  subst hi
  rw [exec_eq_run i s hmn, run, handlerOf_extra, hhandler]
  rfl

end Machine

end Sys2Proof
end

section
/-! Loads and stores (40_load_store.md R111 to R116). -/

namespace Sys2Proof.Machine

/-- Settles O29: a load's handler writes its register, Z and N, whatever the mode of its operand. -/
theorem loadEffects : Obligations.LoadEffects :=
  ⟨rowsOf_of_grid (by decide), rowsOf_of_grid (by decide), rowsOf_of_grid (by decide),
    fun _ _ hi => exec_eq_completed hi (by decide) rfl,
    fun _ _ hi => exec_eq_completed hi (by decide) rfl,
    fun _ _ hi => exec_eq_completed hi (by decide) rfl⟩

theorem writeOp_eq_store {o : Operand} {s : State} {ea : Word} (h : (resolve o s).ea = some ea) (v : Byte) :
    writeOp o v s = s.store ea v := by
  simp [writeOp, h]

/-- An instruction of class `write` whose handler writes the byte `v` to its operand. -/
theorem store_effect {i : Instr} (s : State) {mn : Mnemonic} {v : Byte} (hi : i.mnemonic = mn) (hmn : mn ≠ .illegal)
    (hcls : Instr.cls i = .write)
    (hhandler : (handlerOf mn i.operand (s.pastInstr i.operand)).1 = writeOp i.operand v (s.pastInstr i.operand)) :
    ∃ ea, address i s = some ea ∧ Access.fetch ea ∉ handlerAccesses i (s.pastInstr i.operand) ∧
      exec i s = .next (completed i s { s with mem := s.mem.write ea v }) := by
  obtain ⟨ea, -, -, hea, -, haccesses, -⟩ := write_access s (.inl hcls)
  refine ⟨ea, hea, ?unread, exec_eq_completed hi hmn ?stored⟩
  case unread => simp [haccesses, hcls, classAccesses]
  case stored =>
    rw [hhandler, writeOp_eq_store hea]
    rfl

/-- Settles O30: a store's handler writes its register to the operand, and class `write` makes no fetch of it. -/
theorem storeEffects : Obligations.StoreEffects :=
  ⟨rowsOf_of_grid (by decide), rowsOf_of_grid (by decide), rowsOf_of_grid (by decide),
    fun _ s hi => store_effect s hi (by decide) (by simp [Instr.cls, hi]) rfl,
    fun _ s hi => store_effect s hi (by decide) (by simp [Instr.cls, hi]) rfl,
    fun _ s hi => store_effect s hi (by decide) (by simp [Instr.cls, hi]) rfl⟩

end Sys2Proof.Machine
end

section
/-! Transfers (41_transfer.md R120 to R125). -/

namespace Sys2Proof.Machine

/-- Settles O31: each transfer has one row, and its handler reads no operand, so PC stays past the opcode byte while the
register is copied. Z and N follow the copy in the five handlers that call `SetZN`; TXS's only writes SP. -/
theorem transferEffects : Obligations.TransferEffects :=
  ⟨rowsOf_of_grid (by decide), rowsOf_of_grid (by decide), rowsOf_of_grid (by decide),
    rowsOf_of_grid (by decide), rowsOf_of_grid (by decide), rowsOf_of_grid (by decide),
    fun _ => exec_eq_completed (mn := .tax) rfl (by decide) rfl,
    fun _ => exec_eq_completed (mn := .tay) rfl (by decide) rfl,
    fun _ => exec_eq_completed (mn := .txa) rfl (by decide) rfl,
    fun _ => exec_eq_completed (mn := .tya) rfl (by decide) rfl,
    fun _ => exec_eq_completed (mn := .tsx) rfl (by decide) rfl,
    fun _ => exec_eq_completed (mn := .txs) rfl (by decide) rfl⟩

end Sys2Proof.Machine
end

section
/-! A run that pays off the cycles an instruction owes, and the boundary tick after them (60_exceptions.md R240, R242,
R253). -/

namespace Sys2Proof.Machine

/-- Counting ticks pay off the debt and change nothing else. -/
theorem run_pays_debt {s : State} {k : Nat} (hj : s.jammed = false) (hd : s.cycleDebt = k) (m : Nat) :
    Host.Core.run core (m + k) s = Host.Core.run core m (s.setDebt 0) := by
  induction k generalizing s with
  | zero =>
    have hpaid : s.setDebt 0 = s := congrArg s.setDebt hd.symm
    rw [hpaid, Nat.add_zero]
  | succ k ih =>
    have hcounted : s.countDown.cycleDebt = k := by simp [hd]
    calc Host.Core.run core (m + (k + 1)) s
      _ = Host.Core.run core (m + k) s.countDown := run_succ _ _ _ (step_of_owing hj (by omega))
      _ = Host.Core.run core m (s.setDebt 0) := ih hj hcounted

/-- With the IRQ line asserted, I clear and no NMI, the tick after the owed cycles is the entry of the IRQ. -/
theorem run_takes_irq {s : State} {k : Nat} (hj : s.jammed = false) (hd : s.cycleDebt = k)
    (hn : s.nmiPending = false) (hirq : s.irqLine = true ∧ s.flags.i = false) :
    ∃ u, Host.Core.run core (k + 1) s = .next u ∧ u.pc = word (u.load 0xFFFF) (u.load 0xFFFE) ∧ u.sp = s.sp - 3 ∧
      u.flags.i = true := by
  have hrun : Host.Core.run core (k + 1) s = .next (s.setDebt 0).takeIrq := by
    rw [Nat.add_comm, run_pays_debt hj hd]
    exact run_succ 0 _ _ (step_of_irq hj rfl hn hirq)
  have hsp : s.sp - 1 - 1 - 1 = s.sp - 3 := by bv_omega
  exact ⟨_, hrun, rfl, hsp, rfl⟩

end Sys2Proof.Machine
end

section
/-! The stack instructions (42_stack.md R130 to R134). -/

namespace Sys2Proof.Machine

/-! The stack pointer in numbers (20_memory.md R58, R59). -/

theorem stackAddr_eq_ofNat (p : Byte) : stackAddr p = BitVec.ofNat 16 (0x0100 + p.toNat) :=
  eq_ofNat_of_toNat_eq (stackAddr_toNat p)

theorem stackAddr_add_one (p : Byte) : stackAddr (p + 1) = BitVec.ofNat 16 (0x0100 + (p.toNat + 1) % 256) := by
  rw [stackAddr_eq_ofNat, BitVec.toNat_add]
  rfl

theorem sub_one_eq_ofInt (p : Byte) : p - 1 = BitVec.ofInt 8 (p.toNat - 1) := by
  simp [sub_eq_add_neg, BitVec.ofInt_add]

theorem add_one_eq_ofNat (p : Byte) : p + 1 = BitVec.ofNat 8 (p.toNat + 1) := by
  simp [BitVec.ofNat_add]

theorem push8_eq (s : State) (v : Byte) :
    s.push8 v = { s with
      mem := s.mem.write (BitVec.ofNat 16 (0x0100 + s.sp.toNat)) v, sp := BitVec.ofInt 8 (s.sp.toNat - 1) } := by
  rw [← stackAddr_eq_ofNat, ← sub_one_eq_ofInt]
  rfl

/-- The byte pulled is the one last pushed, across the wrap of SP too. -/
theorem pulled8_push8 (s : State) (v : Byte) (hw : s.mem.wf = true) : (s.push8 v).pulled8 = v := by
  simp [Memory.read_write_same _ _ _ hw]

/-! What each stack instruction does, in the operations of the stack. -/

theorem exec_pha (s : State) : exec .pha s = .next (completed .pha s (s.push8 s.a)) :=
  exec_eq_completed (mn := .pha) rfl (by decide) rfl

theorem exec_php (s : State) : exec .php s = .next (completed .php s (s.push8 (s.flags.packP true))) :=
  exec_eq_completed (mn := .php) rfl (by decide) rfl

theorem exec_pla (s : State) :
    exec .pla s = .next (completed .pla s
      { s.pull8 with a := s.pulled8, flags := zeroNegative s.flags s.pulled8 }) :=
  exec_eq_completed (mn := .pla) rfl (by decide) rfl

theorem exec_plp (s : State) :
    exec .plp s = .next (completed .plp s { s.pull8 with flags := s.flags.unpackP s.pulled8 }) :=
  exec_eq_completed (mn := .plp) rfl (by decide) rfl

/-- Settles O32: both instructions are `Push8`, PHA of A and PHP of the image with its break bit set. -/
theorem pushEffects : Obligations.PushEffects := by
  refine ⟨rowsOf_of_grid (by decide), rowsOf_of_grid (by decide), fun s => ?pha, fun s => ?php⟩
  case pha => rw [exec_pha, push8_eq]
  case php =>
    rw [exec_php, push8_eq]
    rfl

/-- When PLP loads I = 0 under an asserted IRQ line, the boundary after its 4 cycles takes the IRQ (R133): one byte
pulled and three pushed leave SP two lower. -/
theorem plp_then_irq (s : State) (hj : s.jammed = false) (hirq : s.irqLine = true) (hn : s.nmiPending = false)
    (hpulled : s.pulled8.getLsbD 2 = false) :
    ∃ t u, exec .plp s = .next t ∧ Host.Core.run core 4 t = .next u ∧ u.pc = word (u.load 0xFFFF) (u.load 0xFFFE) ∧
      u.sp = s.sp - 2 ∧ u.flags.i = true := by
  obtain ⟨u, hrun, hpc, hsp, hi⟩ := run_takes_irq
    (s := completed .plp s { s.pull8 with flags := s.flags.unpackP s.pulled8 }) hj rfl hn ⟨hirq, hpulled⟩
  have hpulledAndPushed : s.sp + 1 - 3 = s.sp - 2 := by bv_omega
  exact ⟨_, u, exec_plp s, hrun, hpc, hsp.trans hpulledAndPushed, hi⟩

/-- Settles O33: both instructions are `Pull8`; PLA's byte goes to A, Z and N, PLP's through `UnpackP`. -/
theorem pullEffects : Obligations.PullEffects := by
  refine ⟨rowsOf_of_grid (by decide), rowsOf_of_grid (by decide), fun s v hv => ?_⟩
  rw [← stackAddr_add_one] at hv
  subst hv
  rw [← add_one_eq_ofNat]
  exact ⟨exec_pla s, exec_plp s, plp_then_irq s⟩

theorem php_then_plp (s : State) (hw : s.mem.wf = true) :
    ∃ t u, exec .php s = .next t ∧ exec .plp t = .next u ∧ u.flags = s.flags ∧ u.sp = s.sp ∧ u.a = s.a := by
  have hflags : s.flags.unpackP (s.push8 (s.flags.packP true)).pulled8 = s.flags := by
    rw [pulled8_push8 s _ hw, Flags.unpackP_packP]
  exact ⟨_, _, exec_php s, exec_plp _, hflags, sub_add_one s.sp, rfl⟩

theorem pha_then_pla (s : State) (hw : s.mem.wf = true) :
    ∃ t u, exec .pha s = .next t ∧ exec .pla t = .next u ∧ u.a = s.a ∧ u.flags = zeroNegative s.flags s.a ∧
      u.sp = s.sp := by
  have ha := pulled8_push8 s s.a hw
  exact ⟨_, _, exec_pha s, exec_pla _, ha, congrArg (zeroNegative s.flags) ha, sub_add_one s.sp⟩

/-- Settles O34: a pull undoes the push before it, and `UnpackP` undoes `PackP`. -/
theorem pushThenPullRestores : Obligations.PushThenPullRestores :=
  fun s hw => ⟨php_then_plp s hw, pha_then_pla s hw⟩

end Sys2Proof.Machine
end

section
/-! Logic (43_logic.md R140 to R143). -/

namespace Sys2Proof.Machine

/-- An instruction whose handler puts the byte `v` in A and lets Z and N follow it, as AND, ORA and EOR do (R140 to
R142). -/
theorem accumulate_effect {i : Instr} {s : State} {mn : Mnemonic} {v : Byte} (hi : i.mnemonic = mn)
    (hmn : mn ≠ .illegal)
    (hhandler : (handlerOf mn i.operand (s.pastInstr i.operand)).1 = (s.pastInstr i.operand).accumulate v) :
    exec i s = .next (completed i s { s with a := v, flags := zeroNegative s.flags v }) :=
  exec_eq_completed hi hmn hhandler

/-- BIT writes Z, N and V by its flag test of A and the operand, and no register (R143). -/
theorem bit_effect {i : Instr} (s : State) (hi : i.mnemonic = .bit) :
    exec i s = .next (completed i s { s with flags := s.flags.bitTest s.a (operandByte i s) }) :=
  exec_eq_completed hi (by decide) rfl

/-- Settles O36: AND, ORA and EOR accumulate their bitwise result; BIT tests flags, N and V from the operand itself. -/
theorem logicEffects : Obligations.LogicEffects := by
  refine ⟨rowsOf_of_grid (by decide), rowsOf_of_grid (by decide), rowsOf_of_grid (by decide),
    rowsOf_of_grid (by decide), fun i s hi => ?and, fun i s hi => ?ora, fun i s hi => ?eor, fun i s hi => ?bit⟩
  case and => exact accumulate_effect hi (by decide) rfl
  case ora => exact accumulate_effect hi (by decide) rfl
  case eor => exact accumulate_effect hi (by decide) rfl
  case bit => exact bit_effect s hi

end Sys2Proof.Machine
end

section
/-! Addition, subtraction and comparison (44_arithmetic.md R150 to R160). -/

namespace Sys2Proof.Machine

/-! The binary adder in numbers (R150). -/

theorem addBinary_result (a m : Byte) (cin : Bool) :
    (addBinary a m cin).result = BitVec.ofNat 8 (a.toNat + m.toNat + cin.toNat) := rfl

theorem addBinary_c (a m : Byte) (cin : Bool) :
    (addBinary a m cin).c = decide (255 < a.toNat + m.toNat + cin.toNat) := rfl

theorem addBinary_v (a m : Byte) (cin : Bool) :
    (addBinary a m cin).v =
      (a.getLsbD 7 == m.getLsbD 7 && (addBinary a m cin).result.getLsbD 7 != a.getLsbD 7) := rfl

theorem getLsbD_seven_eq (b : Byte) : b.getLsbD 7 = decide (128 ≤ b.toNat) :=
  (BitVec.msb_eq_getLsbD_last b).symm.trans (BitVec.msb_eq_decide b)

theorem byte_toInt_eq (b : Byte) : b.toInt = if 128 ≤ b.toNat then (b.toNat : Int) - 256 else b.toNat := by
  simp [BitVec.toInt_eq_msb_cond, BitVec.msb_eq_decide]

/-- The sign rule for V: the bytes agree in sign and the result does not exactly when the signed sum leaves the range. -/
theorem addBinary_v_iff (a m : Byte) (cin : Bool) :
    (addBinary a m cin).v = true ↔
      a.toInt + m.toInt + cin.toNat < -128 ∨ 127 < a.toInt + m.toInt + cin.toNat := by
  have ha : a.toNat < 256 := a.isLt
  have hm : m.toNat < 256 := m.isLt
  have hcin : cin.toNat ≤ 1 := cin.toNat_le
  simp only [addBinary_v, addBinary_result, getLsbD_seven_eq, byte_toInt_eq, BitVec.toNat_ofNat, Bool.and_eq_true,
    beq_iff_eq, bne_iff_ne, ne_eq, decide_eq_decide]
  split <;> split <;> omega

/-- Settles O37: all but V is the definition; V is the overflow of the signed sum. -/
theorem binaryAdditionMeaning : Obligations.BinaryAdditionMeaning := fun a m cin =>
  ⟨BitVec.toNat_ofNat .., addBinary_c a m cin, rfl, rfl, addBinary_v_iff a m cin,
    by simp [addBinary_v, Bool.beq_eq_decide_eq, bne]⟩

/-! The binary subtractor: the complement of `m` counts as `255 - m`, or as `-1 - m` for signed numbers (R154). -/

theorem toInt_complement (m : Byte) : (~~~m).toInt = -1 - m.toInt := by
  have hm : m.toNat < 256 := m.isLt
  rw [byte_toInt_eq, byte_toInt_eq, BitVec.toNat_not]
  split <;> split <;> omega

/-- The sum with the complement is 256 above the difference with borrow. -/
theorem complement_sum (a m : Byte) (cin : Bool) :
    ((a.toNat + (~~~m).toNat + cin.toNat : Nat) : Int) = (a.toNat : Int) - m.toNat - (1 - cin.toNat) + 256 := by
  have hm : m.toNat < 256 := m.isLt
  rw [BitVec.toNat_not]
  omega

theorem addBinary_complement_result (a m : Byte) (cin : Bool) :
    (addBinary a (~~~m) cin).result = BitVec.ofInt 8 ((a.toNat : Int) - m.toNat - (1 - cin.toNat)) := by
  rw [addBinary_result, ← BitVec.ofInt_natCast, complement_sum, BitVec.ofInt_add]
  exact BitVec.add_zero _

theorem addBinary_complement_c_iff (a m : Byte) (cin : Bool) :
    (addBinary a (~~~m) cin).c = true ↔ 0 ≤ (a.toNat : Int) - m.toNat - (1 - cin.toNat) := by
  have hsum := complement_sum a m cin
  rw [addBinary_c, decide_eq_true_iff]
  omega

theorem addBinary_complement_v_iff (a m : Byte) (cin : Bool) :
    (addBinary a (~~~m) cin).v = true ↔
      a.toInt - m.toInt - (1 - cin.toNat) < -128 ∨ 127 < a.toInt - m.toInt - (1 - cin.toNat) := by
  have hsum : a.toInt + (~~~m).toInt + cin.toNat = a.toInt - m.toInt - (1 - cin.toNat) := by
    rw [toInt_complement]
    ring
  rw [addBinary_v_iff, hsum]

theorem addBinary_complement_v (a m : Byte) (cin : Bool) :
    (addBinary a (~~~m) cin).v = (decide (a.getLsbD 7 ≠ m.getLsbD 7) &&
      decide ((addBinary a (~~~m) cin).result.getLsbD 7 ≠ a.getLsbD 7)) := by
  simp [addBinary_v, Bool.beq_eq_decide_eq, Bool.eq_not, bne]

/-! ADC and SBC: A and four flags from the adder the flag D selects (R151, R154). -/

theorem exec_adc {i : Instr} (s : State) (hi : i.mnemonic = .adc) :
    exec i s = .next (completed i s (s.accumulateAlu (adcResult s.flags.d s.a (operandByte i s) s.flags.c))) :=
  exec_eq_completed hi (by decide) rfl

theorem exec_sbc {i : Instr} (s : State) (hi : i.mnemonic = .sbc) :
    exec i s = .next (completed i s (s.accumulateAlu (sbcResult s.flags.d s.a (operandByte i s) s.flags.c))) :=
  exec_eq_completed hi (by decide) rfl

/-- Settles O38: every row runs one handler, which accumulates `adcResult`. -/
theorem adcEffect : Obligations.AdcEffect := by
  refine ⟨rowsOf_of_grid (by decide), ?_⟩
  rintro i s r hi rfl
  exact exec_adc s hi

/-- Settles O39: every row runs one handler, which accumulates `sbcResult`; adding the complement subtracts with
borrow. -/
theorem sbcEffect : Obligations.SbcEffect := by
  refine ⟨rowsOf_of_grid (by decide), ?effect, ?borrow⟩
  case effect =>
    rintro i s r hi rfl
    exact exec_sbc s hi
  case borrow =>
    rintro a m cin diff rfl
    exact ⟨addBinary_complement_result a m cin, addBinary_complement_c_iff a m cin, addBinary_complement_v_iff a m cin,
      addBinary_complement_v a m cin⟩

/-! Decimal digits. The correction by 6 turns a nibble's sum or difference into a digit modulo 10, and the carry or borrow
into the next nibble is its quotient by 10 (R153, R156). -/

theorem carry_corrected_mod {n : Nat} (h : n ≤ 19) : (if 9 < n then n + 6 else n) % 16 = n % 10 := by
  split <;> omega

theorem carry_corrected_overflows {n : Nat} : 15 < (if 9 < n then n + 6 else n) ↔ 9 < n := by
  split <;> omega

theorem carry_eq_div {n : Nat} (h : n ≤ 19) : (if 9 < n then 1 else 0) = n / 10 := by
  split <;> omega

theorem borrow_corrected_mod {n : Int} (h : -10 ≤ n ∧ n ≤ 9) : (if n < 0 then n - 6 else n) % 16 = n % 10 := by
  split <;> omega

theorem borrow_eq_neg_div {n : Int} (h : -10 ≤ n ∧ n ≤ 9) : (if n < 0 then 1 else 0) = -(n / 10) := by
  split <;> omega

/-- On valid digits the decimal adder adds in base 10 (R152). -/
theorem decAdc_of_validBcd {a m : Byte} (cin : Bool) (ha : validBcd a) (hm : validBcd m) {total : Nat}
    (htotal : total = bcdValue a + bcdValue m + cin.toNat) :
    (decAdc a m cin).result = bcdByte (total % 100) ∧ (decAdc a m cin).c = decide (99 < total) := by
  obtain ⟨hahi, halo⟩ := ha
  obtain ⟨hmhi, hmlo⟩ := hm
  have hcin : cin.toNat ≤ 1 := cin.toNat_le
  have hlo : a.toNat % 16 + m.toNat % 16 + cin.toNat ≤ 19 := by omega
  have hhi : a.toNat / 16 + m.toNat / 16 + (a.toNat % 16 + m.toNat % 16 + cin.toNat) / 10 ≤ 19 := by omega
  simp only [bcdValue] at htotal
  simp only [decAdc, aluResult, bcdByte, carry_corrected_overflows, carry_eq_div hlo, carry_corrected_mod hlo,
    carry_corrected_mod hhi]
  exact ⟨congrArg (BitVec.ofNat 8) (by omega), decide_eq_decide.mpr (by omega)⟩

/-- On valid digits the decimal subtractor subtracts in base 10 (R155). -/
theorem decSbc_of_validBcd {a m : Byte} (cin : Bool) (ha : validBcd a) (hm : validBcd m) {diff : Int}
    (hdiff : diff = (bcdValue a : Int) - bcdValue m - (1 - cin.toNat)) :
    (decSbc a m cin).result = bcdByte (diff % 100).toNat ∧ (decSbc a m cin).c = decide (0 ≤ diff) := by
  obtain ⟨hahi, halo⟩ := ha
  obtain ⟨hmhi, hmlo⟩ := hm
  have hborrow : ((!cin).toNat : Int) = 1 - cin.toNat := by cases cin <;> rfl
  have hcin : cin.toNat ≤ 1 := cin.toNat_le
  generalize hl : ((a.toNat % 16 : Nat) : Int) - (m.toNat % 16 : Nat) - (1 - cin.toNat) = lo
  have hlo : -10 ≤ lo ∧ lo ≤ 9 := by omega
  have hhi : -10 ≤ ((a.toNat / 16 : Nat) : Int) - (m.toNat / 16 : Nat) - -(lo / 10) ∧
      ((a.toNat / 16 : Nat) : Int) - (m.toNat / 16 : Nat) - -(lo / 10) ≤ 9 := by omega
  simp only [bcdValue] at hdiff
  simp only [decSbc, aluResult, bcdByte, hborrow, hl, decide_eq_true_eq, ← BitVec.ofInt_natCast, borrow_eq_neg_div hlo,
    borrow_corrected_mod hlo, borrow_corrected_mod hhi]
  exact ⟨congrArg (BitVec.ofInt 8) (by omega), decide_eq_decide.mpr (by omega)⟩

/-- Settles O40: with D set ADC accumulates `decAdc`. -/
theorem decimalAdditionIsBaseTen : Obligations.DecimalAdditionIsBaseTen := by
  intro i s total hi hd ha hm htotal
  obtain ⟨hresult, hc⟩ := decAdc_of_validBcd s.flags.c ha hm htotal
  have hexec := exec_adc s hi
  rw [hd] at hexec
  exact ⟨_, hexec, hresult, hc⟩

/-- Settles O41: with D set SBC accumulates `decSbc`. -/
theorem decimalSubtractionIsBaseTen : Obligations.DecimalSubtractionIsBaseTen := by
  intro i s diff hi hd ha hm hdiff
  obtain ⟨hresult, hc⟩ := decSbc_of_validBcd s.flags.c ha hm hdiff
  have hexec := exec_sbc s hi
  rw [hd] at hexec
  exact ⟨_, hexec, hresult, hc⟩

/-! Comparison: the flags of the subtraction without borrow (R157). -/

theorem addBinary_complement_result_of_carry (r m : Byte) : (addBinary r (~~~m) true).result = r - m := by
  rw [addBinary_result, BitVec.toNat_not]
  bv_omega

theorem addBinary_complement_flags_of_carry (r m : Byte) :
    (addBinary r (~~~m) true).c = decide (m.toNat ≤ r.toNat) ∧ (addBinary r (~~~m) true).z = decide (r = m) ∧
      (addBinary r (~~~m) true).n = (r - m).getLsbD 7 := by
  have hresult := addBinary_complement_result_of_carry r m
  refine ⟨?c, ?z, ?n⟩
  case c =>
    rw [Bool.eq_iff_iff, addBinary_complement_c_iff, decide_eq_true_iff]
    simp
  case z =>
    calc (addBinary r (~~~m) true).z
      _ = decide ((addBinary r (~~~m) true).result = 0) := rfl
      _ = decide (r = m) := by rw [hresult, decide_eq_decide]; exact sub_eq_zero
  case n => exact congrArg (BitVec.getLsbD · 7) hresult

/-- Settles O43: a comparison's handler writes `Compare` of its register and the operand to the flags and nothing else. -/
theorem compareEffects : Obligations.CompareEffects :=
  ⟨rowsOf_of_grid (by decide), rowsOf_of_grid (by decide), rowsOf_of_grid (by decide),
    fun _ _ hi => exec_eq_completed hi (by decide) rfl,
    fun _ _ hi => exec_eq_completed hi (by decide) rfl,
    fun _ _ hi => exec_eq_completed hi (by decide) rfl,
    addBinary_complement_flags_of_carry⟩

end Sys2Proof.Machine
end

section
/-! Increments and decrements (45_incdec.md R170 to R175). -/

namespace Sys2Proof.Machine

/-- A read-modify-write instruction whose handler writes the byte `v` back to its operand and leaves the flags `f`. -/
theorem modify_effect {i : Instr} (s : State) {mn : Mnemonic} {v : Byte} {f : Flags} (hi : i.mnemonic = mn)
    (hmn : mn ≠ .illegal) (hcls : Instr.cls i = .rmw)
    (hhandler : (handlerOf mn i.operand (s.pastInstr i.operand)).1 =
      (writeOp i.operand v (s.pastInstr i.operand)).setFlags f) :
    ∃ ea, address i s = some ea ∧ operandByte i s = s.load ea ∧
      handlerAccesses i (s.pastInstr i.operand) = [.fetch ea, .store ea] ∧
      exec i s = .next (completed i s { s with mem := s.mem.write ea v, flags := f }) := by
  obtain ⟨ea, -, -, hea, hbyte, haccesses, -⟩ := write_access s (.inr hcls)
  rw [hcls] at haccesses
  refine ⟨ea, hea, hbyte, haccesses, exec_eq_completed hi hmn ?_⟩
  rw [hhandler, writeOp_eq_store hea]
  rfl

/-- Writing an operand writes no flag, so Z and N change those of the state before. -/
theorem writeOp_setZN (o : Operand) (v : Byte) (s : State) :
    (writeOp o v s).setZN v = (writeOp o v s).setFlags (zeroNegative s.flags v) := by
  rw [State.setZN, writeOp_flags]
  rfl

/-- Settles O44: each handler writes the operand byte plus or minus one back to the operand, and class `rmw` makes one
fetch and one store of it. -/
theorem memoryIncrementEffects : Obligations.MemoryIncrementEffects := by
  refine ⟨rowsOf_of_grid (by decide), rowsOf_of_grid (by decide), fun i s v hi hv => ?inc, fun i s v hi hv => ?dec⟩
  case inc =>
    obtain rfl := hv.trans (add_one_eq_ofNat _).symm
    exact modify_effect s hi (by decide) (by simp [Instr.cls, hi]) (writeOp_setZN _ _ _)
  case dec =>
    obtain rfl := hv.trans (sub_one_eq_ofInt _).symm
    exact modify_effect s hi (by decide) (by simp [Instr.cls, hi]) (writeOp_setZN _ _ _)

/-- Settles O45: each has one row, and its handler writes its register plus or minus one, Z and N from it, and nothing
else. -/
theorem registerIncrementEffects : Obligations.RegisterIncrementEffects := by
  refine ⟨rowsOf_of_grid (by decide), rowsOf_of_grid (by decide), rowsOf_of_grid (by decide),
    rowsOf_of_grid (by decide), fun s v hv => ?inx, fun s v hv => ?iny, fun s v hv => ?dex, fun s v hv => ?dey⟩
  case inx =>
    obtain rfl := hv.trans (add_one_eq_ofNat _).symm
    exact exec_eq_completed (mn := .inx) rfl (by decide) rfl
  case iny =>
    obtain rfl := hv.trans (add_one_eq_ofNat _).symm
    exact exec_eq_completed (mn := .iny) rfl (by decide) rfl
  case dex =>
    obtain rfl := hv.trans (sub_one_eq_ofInt _).symm
    exact exec_eq_completed (mn := .dex) rfl (by decide) rfl
  case dey =>
    obtain rfl := hv.trans (sub_one_eq_ofInt _).symm
    exact exec_eq_completed (mn := .dey) rfl (by decide) rfl

end Sys2Proof.Machine
end

section
/-! Shifts and rotates (46_shift.md R180 to R184). -/

namespace Sys2Proof.Machine

theorem mode_eq_acc_iff (o : Operand) : o.mode = .acc ↔ o = .acc := by
  cases o <;> simp [Operand.mode]

/-- An accumulator instruction whose handler writes the byte `v` back to its operand and leaves the flags `f`. -/
theorem modifyAcc_effect {i : Instr} (s : State) {mn : Mnemonic} {v : Byte} {f : Flags} (hi : i.mnemonic = mn)
    (hmn : mn ≠ .illegal) (hacc : i.operand = .acc)
    (hhandler : (handlerOf mn i.operand (s.pastInstr i.operand)).1 =
      (writeOp i.operand v (s.pastInstr i.operand)).setFlags f) :
    operandByte i s = s.a ∧ handlerAccesses i (s.pastInstr i.operand) = [] ∧
      exec i s = .next (completed i s { s with a := v, flags := f }) := by
  obtain ⟨hbyte, haccesses, -⟩ := acc_access s hacc
  refine ⟨hbyte, haccesses, exec_eq_completed hi hmn ?_⟩
  rw [hhandler, Instr.length, hacc]
  rfl

/-- An instruction that is read-modify-write in every mode but ACC: its byte `v` goes back where the operand stands, in A
or in memory (R180). -/
theorem modify_acc_or_memory {i : Instr} (s : State) {mn : Mnemonic} {v : Byte} {f : Flags} (hi : i.mnemonic = mn)
    (hmn : mn ≠ .illegal) (hcls : i.operand.mode ≠ .acc → Instr.cls i = .rmw)
    (hhandler : (handlerOf mn i.operand (s.pastInstr i.operand)).1 =
      (writeOp i.operand v (s.pastInstr i.operand)).setFlags f) :
    (i.operand = .acc ∧ operandByte i s = s.a ∧ handlerAccesses i (s.pastInstr i.operand) = [] ∧
      exec i s = .next (completed i s { s with a := v, flags := f })) ∨
    ∃ ea, address i s = some ea ∧ operandByte i s = s.load ea ∧
      handlerAccesses i (s.pastInstr i.operand) = [.fetch ea, .store ea] ∧
      exec i s = .next (completed i s { s with mem := s.mem.write ea v, flags := f }) := by
  by_cases hacc : i.operand = .acc
  · exact .inl ⟨hacc, modifyAcc_effect s hi hmn hacc hhandler⟩
  · have hmode : i.operand.mode ≠ .acc := mt (mode_eq_acc_iff _).mp hacc
    exact .inr (modify_effect s hi hmn (hcls hmode) hhandler)

/-- A byte holds its number modulo 256, so the bit that ASL shifts out is lost (R181). -/
theorem ofNat_byte_mod (n : Nat) : BitVec.ofNat 8 (n % 256) = BitVec.ofNat 8 n :=
  BitVec.eq_of_toNat_eq (by simp)

/-- Settles O46: each handler writes the shifted operand byte back to the operand, and only in ACC mode is the operand A
and not a byte of memory. -/
theorem shiftEffects : Obligations.ShiftEffects := by
  refine ⟨rowsOf_of_grid (by decide), rowsOf_of_grid (by decide), rowsOf_of_grid (by decide),
    rowsOf_of_grid (by decide), fun i s v hi hv => ?asl, fun i s v hi hv => ?lsr, fun i s v hi hv => ?rol,
    fun i s v hi hv => ?ror⟩
  case asl =>
    obtain rfl := hv.trans (ofNat_byte_mod _)
    exact modify_acc_or_memory s hi (by decide) (by simp [Instr.cls, hi]) rfl
  case lsr =>
    subst hv
    exact modify_acc_or_memory s hi (by decide) (by simp [Instr.cls, hi]) rfl
  case rol =>
    subst hv
    exact modify_acc_or_memory s hi (by decide) (by simp [Instr.cls, hi]) rfl
  case ror =>
    subst hv
    exact modify_acc_or_memory s hi (by decide) (by simp [Instr.cls, hi]) rfl

end Sys2Proof.Machine
end

section
/-! Jumps and subroutines (47_jump.md R190 to R192). -/

namespace Sys2Proof.Machine

/-! JMP. -/

/-- The parameter decides only for a pointer at the last byte of a page (R190, 30_encoding.md R92). -/
theorem indPointerHigh_eq_ite (wrap : Bool) (w : Word) :
    indPointerHigh wrap w = if lo8 w = 0xFF then (if wrap then word (hi8 w) 0x00 else w + 1) else w + 1 :=
  ite_and ..

theorem exec_jmpAbs (w : Word) (s : State) : exec (.jmpAbs w) s = .next { s with pc := w, cycleDebt := 2 } := rfl

theorem exec_jmpInd (w : Word) (s : State) :
    exec (.jmpInd w) s = .next { s with
      pc := word (s.load (indPointerHigh Config.jmpIndPageWrap w)) (s.load w), cycleDebt := 4 } := rfl

/-- Settles O47: both rows jump to the address their mode resolves to, which is the operand itself or the word its
pointer names, and the handler writes PC alone. -/
theorem jumpEffect : Obligations.JumpEffect := by
  refine ⟨rowsOf_of_grid (by decide), fun w s => ⟨exec_jmpAbs w s, rfl, rfl⟩, fun w s => ?_⟩
  rw [exec_jmpInd, indPointerHigh_eq_ite]

/-! JSR. -/

/-- Of a three-byte instruction, the byte before the next instruction is its last. -/
theorem pastInstr_abs_pc_sub_one (s : State) (w : Word) : (s.pastInstr (.abs w)).pc - 1 = s.pc + 2 := by
  simp only [State.pastInstr_pc, Operand.mode, Mode.operandBytes]
  bv_omega

theorem pushWord_eq (s : State) (w : Word) :
    s.pushWord w = { s with
      mem := (s.mem.write (stackAddr s.sp) (hi8 w)).write (stackAddr (s.sp - 1)) (lo8 w), sp := s.sp - 2 } := by
  have hsp : s.sp - 1 - 1 = s.sp - 2 := by bv_omega
  rw [← hsp]
  rfl

theorem exec_jsr (w : Word) (s : State) :
    exec (.jsr w) s = .next ((((s.pastInstr (.abs w)).pushWord (s.pc + 2)).setPc w).setDebt 5) := by
  rw [← pastInstr_abs_pc_sub_one s w]
  rfl

/-- Settles O48: the handler is `PushWord` of the address before the next instruction, then a jump to the operand. -/
theorem subroutineCallEffect : Obligations.SubroutineCallEffect := by
  refine ⟨rowsOf_of_grid (by decide), fun w s => ?_⟩
  rw [exec_jsr, pushWord_eq]
  rfl

/-! RTS. -/

theorem stackAddr_add_two (p : Byte) : stackAddr (p + 2) = BitVec.ofNat 16 (0x0100 + (p.toNat + 2) % 256) := by
  rw [stackAddr_eq_ofNat, BitVec.toNat_add]
  rfl

theorem add_one_add_one (p : Byte) : p + 1 + 1 = p + 2 := by bv_omega

theorem pullWord_eq (s : State) : s.pullWord = { s with sp := s.sp + 2 } := by
  rw [← add_one_add_one]
  rfl

/-- The word `PullWord` returns lies just above SP, the sums wrapping inside the stack page (20_memory.md R59, R60). -/
theorem pulledWord_toNat (s : State) :
    s.pulledWord.toNat = wordAt s (0x0100 + (s.sp.toNat + 1) % 256) (0x0100 + (s.sp.toNat + 2) % 256) := by
  rw [State.pulledWord_eq, add_one_add_one, stackAddr_add_one, stackAddr_add_two]
  exact word_load_toNat s _ _

theorem exec_rts (s : State) : exec .rts s = .next ((s.pullWord.setPc (s.pulledWord + 1)).setDebt 5) := rfl

/-- Settles O49: the handler is `PullWord`, then a jump to the word pulled plus one. -/
theorem subroutineReturnEffect : Obligations.SubroutineReturnEffect := by
  refine ⟨rowsOf_of_grid (by decide), fun s => ?_⟩
  have hpc : s.pulledWord + 1 = BitVec.ofNat 16 (s.pulledWord.toNat + 1) := by simp [BitVec.ofNat_add]
  rw [exec_rts, hpc, pulledWord_toNat, pullWord_eq]
  rfl

end Sys2Proof.Machine
end

section
/-! Encoding and decoding (30_encoding.md R80 to R87, R99, R100): the well-formed instructions are those the opcode grid
holds, and decoding reads off the encoding of the one whose bytes stand there. -/

namespace Sys2Proof

theorem wellFormed_iff (i : Instr) :
    i.wellFormed = true ↔ (i.mnemonic = .illegal → isIllegalOpcode i.opcode = true) := by
  cases i with
  | illegal op => exact ⟨fun h _ => h, fun h => h rfl⟩
  | _ => exact iff_of_true rfl Mnemonic.noConfusion

/-- The encoding of a grid instruction is its opcode byte and the operand bytes its format reads. -/
theorem encode_instr (op b1 b2 : Byte) :
    encode ((opcodeForm op).instr b1 b2) = op :: [b1, b2].take (opcodeForm op).operandBytes := by
  rw [encode, opcode_opcodeForm, (opcodeForm_carriesOperand op).bytes]

/-- The illegal bytes fill the columns of the grid that R98 leaves free. -/
theorem instr_of_illegalOpcode {op : Byte} (h : isIllegalOpcode op = true) (b1 b2 : Byte) :
    (opcodeForm op).instr b1 b2 = .illegal op := by
  obtain ⟨op', hop'⟩ := Machine.mnemonic_illegal _ ((mnemonic_opcodeForm_eq_illegal op b1 b2).mpr h)
  have hop := opcode_opcodeForm op b1 b2
  rw [hop'] at hop ⊢
  exact congrArg Instr.illegal hop

/-- The row of an assigned instruction gives the instruction back from its operand bytes, in each of the three formats
(R81 to R83). -/
theorem exists_instr_of_assigned {i : Instr} (h : i.mnemonic ≠ .illegal) :
    ∃ b1 b2, (opcodeForm i.opcode).instr b1 b2 = i := by
  cases i with
  | illegal op => exact absurd rfl h
  | _ =>
    dsimp only [Instr.opcode]
    first
    | exact ⟨0, 0, rfl⟩
    | exact ⟨_, 0, rfl⟩
    | exact ⟨_, _, congrArg _ (word_hi8_lo8 _)⟩

/-- The grid holds the well-formed instructions and no other. -/
theorem exists_instr_eq_iff (i : Instr) :
    (∃ op b1 b2, (opcodeForm op).instr b1 b2 = i) ↔ i.wellFormed = true := by
  constructor
  · rintro ⟨op, b1, b2, rfl⟩
    rw [wellFormed_iff, opcode_opcodeForm]
    exact (mnemonic_opcodeForm_eq_illegal op b1 b2).mp
  · intro h
    by_cases hi : i.mnemonic = .illegal
    · obtain ⟨op, rfl⟩ := Machine.mnemonic_illegal i hi
      exact ⟨op, 0, 0, instr_of_illegalOpcode h 0 0⟩
    · exact ⟨i.opcode, exists_instr_of_assigned hi⟩

/-- What decoding reads is the opcode byte and as many operand bytes as its format has. -/
theorem decode_inversion {bytes rest : List Byte} {i : Instr} (h : decode bytes = .ok (i, rest)) :
    ∃ op b1 b2, (opcodeForm op).instr b1 b2 = i ∧
      bytes = op :: [b1, b2].take (opcodeForm op).operandBytes ++ rest := by
  cases bytes with
  | nil => contradiction
  | cons op tail =>
    refine ⟨op, ?_⟩
    simp only [decode] at h
    generalize opcodeForm op = f at h ⊢
    split at h
    · obtain ⟨rfl, rfl⟩ := Prod.mk.inj (Except.ok.inj h)
      exact ⟨0, 0, rfl, rfl⟩
    · next k b1 rest' =>
      obtain ⟨rfl, rfl⟩ := Prod.mk.inj (Except.ok.inj h)
      exact ⟨b1, 0, rfl, rfl⟩
    · next k b1 b2 rest' =>
      obtain ⟨rfl, rfl⟩ := Prod.mk.inj (Except.ok.inj h)
      exact ⟨b1, b2, rfl, rfl⟩
    · contradiction

/-- Decoding reads an instruction of the grid exactly when its encoding stands at the head of the list. -/
theorem decode_eq_ok_iff (bytes rest : List Byte) (i : Instr) :
    decode bytes = .ok (i, rest) ↔ (∃ op b1 b2, (opcodeForm op).instr b1 b2 = i) ∧ bytes = encode i ++ rest := by
  constructor
  · intro h
    obtain ⟨op, b1, b2, rfl, hbytes⟩ := decode_inversion h
    exact ⟨⟨op, b1, b2, rfl⟩, by rw [encode_instr, hbytes]⟩
  · rintro ⟨⟨op, b1, b2, rfl⟩, rfl⟩
    rw [encode_instr]
    simp only [decode, List.cons_append]
    cases opcodeForm op <;> rfl

/-- Settles O1: a well-formed instruction is in the grid, so its encoding decodes to it. -/
theorem decodeInvertsEncode : Obligations.DecodeInvertsEncode := fun i rest h =>
  (decode_eq_ok_iff _ rest i).mpr ⟨(exists_instr_eq_iff i).mpr h, rfl⟩

/-- Settles O2: what is decoded is in the grid, so it is well-formed. -/
theorem encodeInvertsDecode : Obligations.EncodeInvertsDecode := fun bytes rest i h =>
  have ⟨hgrid, hbytes⟩ := (decode_eq_ok_iff bytes rest i).mp h
  ⟨(exists_instr_eq_iff i).mp hgrid, hbytes⟩

/-- Settles O4: one opcode byte of the grid for each of the thirteen modes. -/
theorem exampleEncodingsDecode : Obligations.ExampleEncodingsDecode :=
  ⟨rfl, rfl, rfl, rfl, rfl, rfl, rfl, rfl, rfl, rfl, rfl, rfl, rfl⟩

end Sys2Proof
end

section
/-! The obligations that are one law of memory, of a tick or of the invariant. -/

namespace Sys2Proof.Machine

/-- Settles O21: each of the five kinds of tick keeps the invariant. -/
theorem everyTickKeepsTheInvariant : Obligations.EveryTickKeepsTheInvariant := fun _ _ => step_keeps_inv

theorem reset_eq_resetFrom : State.reset = resetFrom 0xFF [] := rfl

/-- Settles O22: Reset establishes the invariant on any canonical memory, and `State.reset` is Reset on the empty
one. -/
theorem resetStateSatisfiesTheInvariant : Obligations.ResetStateSatisfiesTheInvariant :=
  ⟨reset_eq_resetFrom ▸ resetFrom_inv 0xFF rfl, fun sp _ hw => resetFrom_inv sp hw⟩

/-- Settles O10: a memory that lists nothing reads as the fill everywhere, so the reset vector is 0x0000. -/
theorem resetStateHolds : Obligations.ResetStateHolds :=
  ⟨reset_eq_resetFrom, fun _ => rfl, by decide⟩

/-- Settles O7: canonical lists that read alike on the whole address space are one list. -/
theorem canonicalMemoriesThatReadAlikeAreEqual : Obligations.CanonicalMemoriesThatReadAlikeAreEqual :=
  Memory.ext_read

theorem step_next (s : State) : ∃ t, step s = .next t := by
  unfold step
  split
  · exact ⟨_, rfl⟩
  split
  · exact ⟨_, rfl⟩
  split
  · exact ⟨_, rfl⟩
  split
  · exact ⟨_, rfl⟩
  · exact exec_next _ s

/-- Settles O14: each branch of a tick answers a next state, the last because every instruction does. -/
theorem everyTickAndInstructionCompletes : Obligations.EveryTickAndInstructionCompletes := ⟨step_next, exec_next⟩

end Sys2Proof.Machine
end

section
/-! The bytes an instruction fetch reads (20_memory.md R55, R69; 30_encoding.md R80 to R83). -/

namespace Sys2Proof.Machine

/-- The opcode of the instruction fetched is the byte at the program counter. -/
theorem opcode_fetchInstr (m : Memory) (pc : Word) : (fetchInstr m pc).opcode = m.read pc := by
  rw [fetchInstr_eq_instr, opcode_opcodeForm]

/-- Fetching reads the instruction that decoding reads from the three bytes there. -/
theorem fetchInstr_of_decode {m : Memory} {pc : Word} {b0 b1 b2 : Byte} {i : Instr} {rest : List Byte}
    (h0 : m.read pc = b0) (h1 : m.read (pc + 1) = b1) (h2 : m.read (pc + 1 + 1) = b2)
    (h : decode [b0, b1, b2] = .ok (i, rest)) : fetchInstr m pc = i := by
  rw [decode_eq_instr] at h
  rw [fetchInstr_eq_instr, h0, h1, h2]
  exact congrArg Prod.fst (Except.ok.inj h)

/-- Settles O12: at such a boundary the tick runs what is fetched, and that is what the bytes decode to. -/
theorem stepRunsTheDecodedInstruction : Obligations.StepRunsTheDecodedInstruction := by
  intro s i rest hf hdecode
  have hthird : s.pc + 1 + 1 = s.pc + 2 := by bv_omega
  rw [step_of_fetchesNext hf, fetchInstr_of_decode rfl rfl (congrArg s.mem.read hthird) hdecode]

/-- Three bytes placed stand at three addresses. -/
theorem Memory.read_place_three (m : Memory) (a : Word) (b0 b1 b2 : Byte) (hw : m.wf = true) :
    (m.place a [b0, b1, b2]).read a = b0 ∧ (m.place a [b0, b1, b2]).read (a + 1) = b1 ∧
      (m.place a [b0, b1, b2]).read (a + 1 + 1) = b2 := by
  have hw1 := Memory.wf_write m a b0 hw
  have hw2 := Memory.wf_write _ (a + 1) b1 hw1
  have h01 : a ≠ a + 1 := by bv_omega
  have h02 : a ≠ a + 1 + 1 := by bv_omega
  have h12 : a + 1 ≠ a + 1 + 1 := by bv_omega
  simp only [Memory.place]
  refine ⟨?_, ?_, Memory.read_write_same _ _ _ hw2⟩
  · rw [Memory.read_write_ne _ _ _ _ h02, Memory.read_write_ne _ _ _ _ h01, Memory.read_write_same _ _ _ hw]
  · rw [Memory.read_write_ne _ _ _ _ h12, Memory.read_write_same _ _ _ hw1]

theorem decodeTableWord_eq_some {nbits w : Nat} {i : Instr} (h : decodeTableWord nbits w = some i) :
    ∃ rest, decode (wordBytes nbits w) = .ok (i, rest) := by
  unfold decodeTableWord at h
  split at h
  · next j rest hdecode => exact ⟨rest, Option.some.inj h ▸ hdecode⟩
  · contradiction

/-- Settles O13: the word's three bytes stand where the fetch reads, and no interrupt comes first. -/
theorem placedWordRuns : Obligations.PlacedWordRuns := by
  intro s nbits w i hw hword
  obtain ⟨rest, hdecode⟩ := decodeTableWord_eq_some hword
  obtain ⟨h0, h1, h2⟩ := Memory.read_place_three s.mem s.pc _ _ _ hw
  have hquiet : (s.withFetchWord nbits w).FetchesNext := ⟨rfl, rfl, rfl, .inl rfl⟩
  rw [step_of_fetchesNext hquiet]
  exact congrArg (exec · _) (fetchInstr_of_decode h0 h1 h2 hdecode)

/-- Settles O8: the store reaches memory before the next fetch, which reads its opcode there. -/
theorem storeIsSeenByTheNextInstructionFetch : Obligations.StoreIsSeenByTheNextInstructionFetch := fun s hw =>
  ⟨_, rfl, (opcode_fetchInstr _ _).trans (Memory.read_write_same s.mem (s.pc + 3) s.a hw)⟩

end Sys2Proof.Machine
end

section
/-! Ticks that only pass time: the jammed core and the counting core (60_exceptions.md R241, R242, R246). -/

namespace Sys2Proof.Machine

theorem tickAccesses_of_jammed {s : State} (hj : s.jammed = true) : tickAccesses s = [] := by
  simp [tickAccesses, hj]

theorem tickAccesses_of_owing {s : State} (hj : s.jammed = false) (hd : 0 < s.cycleDebt) : tickAccesses s = [] := by
  simp [tickAccesses, hj, hd]

theorem tickAccesses_of_fetchesNext {s : State} (h : s.FetchesNext) :
    tickAccesses s = instrAccesses (fetchInstr s.mem s.pc) s := by
  obtain ⟨hj, hd, hn, hi⟩ := h
  rcases hi with hi | hi <;> simp [tickAccesses, hj, hd, hn, hi]

theorem boundary_of_jammed {s : State} (hj : s.jammed = true) : s.boundary = false := by
  simp [State.boundary, hj]

theorem boundary_of_owing {s : State} (hd : 0 < s.cycleDebt) : s.boundary = false := by
  simp [State.boundary, Nat.ne_of_gt hd]

theorem boundary_of_fetchesNext {s : State} (h : s.FetchesNext) : s.boundary = true := by
  obtain ⟨hj, hd, -⟩ := h
  simp [State.boundary, hj, hd]

/-- A jammed core stays as it is, however many ticks pass. -/
theorem run_jammed {s : State} (hj : s.jammed = true) (k : Nat) : Host.Core.run core k s = .next s := by
  induction k with
  | zero => exact run_zero s
  | succ k ih => rw [run_succ k s s (step_of_jammed hj), ih]

/-- Of the host's operations on a jammed core only Reset ends the jam. -/
theorem apply_jammed {s : State} (hj : s.jammed = true) (sp : Byte) (op : HostOp) :
    ∃ t, op.apply sp s = .next t ∧ (t.jammed = false ↔ op = .reset) := by
  cases op with
  | reset => exact ⟨_, rfl, iff_of_true rfl rfl⟩
  | step => exact ⟨s, step_of_jammed hj, by simp [hj]⟩
  | raiseNmi => exact ⟨_, rfl, by simp [raiseNmi, hj]⟩
  | setIrq level => exact ⟨_, rfl, by simp [setIrq, hj]⟩
  | write a v => exact ⟨_, rfl, by simp [hostWrite, hj]⟩

/-- Settles O11: a jammed tick is the identity, and the operations beside Reset leave the core jammed. -/
theorem jammedTickChangesNothing : Obligations.JammedTickChangesNothing := fun s hj =>
  ⟨step_of_jammed hj, tickAccesses_of_jammed hj, boundary_of_jammed hj, rfl, fun _ => rfl, fun _ _ => rfl,
    fun k level a v => run_jammed (s := hostWrite a v (setIrq level (raiseNmi s))) hj k, apply_jammed hj, fun _ _ => ⟨rfl, rfl, rfl⟩⟩

/-- The instruction at an illegal opcode byte is the illegal one. -/
theorem fetchInstr_illegal {m : Memory} {pc : Word} (h : isIllegalOpcode (m.read pc) = true) :
    fetchInstr m pc = .illegal (m.read pc) := by
  rw [fetchInstr_eq_instr, instr_of_illegalOpcode h]

/-- Settles O56: the tick runs the illegal instruction, whose only access is its opcode byte, and every later tick is
jammed. -/
theorem illegalOpcodeJams : Obligations.IllegalOpcodeJams := by
  refine ⟨exec_illegal, fun s hf hop => ⟨?accesses, boundary_of_fetchesNext hf, fun k => ?run, apply_jammed rfl⟩⟩
  case accesses =>
    rw [tickAccesses_of_fetchesNext hf, fetchInstr_illegal hop]
    exact congrArg (fun a => [Access.fetch a]) (BitVec.add_zero s.pc)
  case run =>
    have hstep : step s = .next { s with jammed := true, cycleDebt := 0 } := by
      rw [step_of_fetchesNext hf, fetchInstr_illegal hop, exec_illegal]
    rw [run_succ k _ _ hstep, run_jammed rfl]

/-- Counting ticks take their number off the debt and change nothing else. -/
theorem run_counts_down {s : State} (hj : s.jammed = false) {k : Nat} (hk : k ≤ s.cycleDebt) :
    Host.Core.run core k s = .next (s.setDebt (s.cycleDebt - k)) := by
  induction k generalizing s with
  | zero => exact run_zero s
  | succ k ih =>
    have hcounted : k ≤ s.countDown.cycleDebt := Nat.le_sub_one_of_lt hk
    rw [run_succ k s s.countDown (step_of_owing hj (by omega)), ih (s := s.countDown) hj hcounted, Nat.add_comm,
      ← Nat.sub_sub]
    rfl

/-- No assigned instruction jams the core. -/
theorem exec_jammed {i : Instr} {s t : State} (hi : i.mnemonic ≠ .illegal) (ht : exec i s = .next t) :
    t.jammed = s.jammed := by
  rw [exec_inversion hi ht]
  exact (handlerOf_keeps _ _ _).jammed

/-- Settles O18: the boundary tick leaves the cycles less one to the counting ticks. -/
theorem instructionOccupiesItsCycles : Obligations.InstructionOccupiesItsCycles := by
  refine ⟨fun s hj hd => ⟨step_of_owing hj hd, tickAccesses_of_owing hj hd, boundary_of_owing hd⟩, ?_⟩
  rintro s i hf rfl hi
  obtain ⟨t, ht⟩ := exec_next (fetchInstr s.mem s.pc) s
  have hstep : step s = .next t := (step_of_fetchesNext hf).trans ht
  refine ⟨t, hstep, boundary_of_fetchesNext hf, fun k hk1 hk => ?_⟩
  obtain ⟨hdebt, -⟩ := debtIsBasePlusExtraLessOne _ s t hi ht
  rw [← Instr.cycles] at hdebt
  obtain ⟨k, rfl⟩ := Nat.exists_eq_add_of_le' hk1
  have hleft : t.cycleDebt - k = Instr.cycles (fetchInstr s.mem s.pc) s - (k + 1) := by omega
  rw [run_succ k s t hstep, run_counts_down ((exec_jammed hi ht).trans hf.1) (by omega), hleft]
  rfl

end Sys2Proof.Machine
end

section
/-! Entering an exception and returning from it: NMI, IRQ, BRK and RTI (60_exceptions.md R252, R256;
49_flag_system.md R223, R224). -/

namespace Sys2Proof.Machine

theorem sub_three_eq (p : Byte) : p - 3 = p - 1 - 1 - 1 := by bv_omega
theorem add_three_eq (p : Byte) : p + 3 = p + 1 + 1 + 1 := by bv_omega

/-- All an entry does: three pushes, I set, PC from the vector, which is read after the pushes. -/
theorem enterVector_eq (s : State) (vector returnPc : Word) (b4 : Bool) :
    s.enterVector vector returnPc b4 = { s with
      sp := s.sp - 3
      flags := { s.flags with i := true }
      pc := (entryMemory s returnPc b4).readWord vector
      mem := entryMemory s returnPc b4 } := by
  rw [sub_three_eq]
  apply State.ext_fields <;> simp

theorem entryMemory_eq (s : State) (returnPc : Word) (b4 : Bool) :
    entryMemory s returnPc b4 =
      ((s.mem.write (stackAddr s.sp) (hi8 returnPc)).write (stackAddr (s.sp - 1)) (lo8 returnPc)).write
        (stackAddr (s.sp - 2)) (s.flags.packP b4) := by
  rw [sub_two_eq]
  rfl

theorem entryAccesses_eq (sp : Byte) (vector : Word) :
    entryAccesses sp vector = [.store (stackAddr sp), .store (stackAddr (sp - 1)), .store (stackAddr (sp - 2)),
      .fetch vector, .fetch (vector + 1)] := by
  rw [sub_two_eq]
  rfl

/-! NMI and IRQ. -/

/-- Whether a boundary tick takes an interrupt with this vector (R249, R250, R253). -/
def State.Takes (s : State) (vector : Word) : Prop :=
  vector = nmiVector ∧ s.nmiPending = true ∨
    vector = irqVector ∧ s.nmiPending = false ∧ s.irqLine = true ∧ s.flags.i = false

/-- One of the vectors is taken when an NMI is latched or an IRQ asserted and not masked. -/
theorem exists_takes {s : State} (h : s.nmiPending = true ∨ s.irqLine = true ∧ s.flags.i = false) :
    ∃ vector, s.Takes vector := by
  rcases Bool.eq_false_or_eq_true s.nmiPending with hn | hn
  · exact ⟨_, .inl ⟨rfl, hn⟩⟩
  · exact ⟨_, .inr ⟨rfl, hn, h.resolve_left (by simp [hn])⟩⟩

/-- Either entry leaves the NMI latch clear: NMI's clears it, IRQ's found it clear. -/
theorem step_of_takes {s : State} {vector : Word} (hj : s.jammed = false) (hd : s.cycleDebt = 0)
    (h : s.Takes vector) : step s = .next ({ s with nmiPending := false }.interrupt vector) := by
  rcases h with ⟨rfl, hn⟩ | ⟨rfl, hn, hi⟩
  · exact step_of_nmi hj hd hn
  · rw [step_of_irq hj hd hn hi, ← hn]
    rfl

theorem tickAccesses_of_takes {s : State} {vector : Word} (hj : s.jammed = false) (hd : s.cycleDebt = 0)
    (h : s.Takes vector) : tickAccesses s = entryAccesses s.sp vector := by
  rcases h with ⟨rfl, hn⟩ | ⟨rfl, hn, hirq, hi⟩
  · simp [tickAccesses, hj, hd, hn]
  · simp [tickAccesses, hj, hd, hn, hirq, hi]

theorem readWord_nmiVector (m : Memory) : m.readWord nmiVector = word (m.read 0xFFFB) (m.read 0xFFFA) := rfl

theorem readWord_irqVector (m : Memory) : m.readWord irqVector = word (m.read 0xFFFF) (m.read 0xFFFE) := rfl

/-- Settles O15: each of the three kinds of boundary tick has its branch, and an entry reads its vector from the memory
the pushes left. -/
theorem boundaryTickOrder : Obligations.BoundaryTickOrder := by
  intro s hj hd
  refine ⟨fun hn => ⟨_, step_of_nmi hj hd hn, ?nmi⟩, fun hn hirq hi => ⟨_, step_of_irq hj hd hn ⟨hirq, hi⟩, ?irq⟩,
    fun hn hi => step_of_fetchesNext ⟨hj, hd, hn, hi⟩⟩
  case nmi => simp [readWord_nmiVector]
  case irq => simp [readWord_irqVector, hn, hirq]

/-- Settles O16: the entry is `enterVector` with break bit 0, and its 6 owed cycles are counting ticks. -/
theorem interruptEntryEffect : Obligations.InterruptEntryEffect := by
  intro s vector hj hd h
  obtain ⟨-, -, h5, h4, -, h2, -⟩ := s.flags.packP_bits false
  refine ⟨_, _, step_of_takes hj hd h, ?effect, rfl, h5, h4, h2, ?accesses, ?run⟩
  case effect =>
    rw [← entryMemory_eq, State.interrupt, enterVector_eq]
    rfl
  case accesses => rw [tickAccesses_of_takes hj hd h, entryAccesses_eq]
  case run =>
    have hrunning := (State.interrupt_jammed { s with nmiPending := false } vector).trans hj
    exact run_counts_down hrunning (Nat.le_refl 6)

/-! BRK and RTI. -/

theorem exec_brk (s : State) :
    exec .brk s = .next ((s.enterVector irqVector (s.pc + 2) true).setDebt 6) := by
  have hpc : s.pc + 1 + 1 = s.pc + 2 := by bv_omega
  rw [← hpc]
  rfl

/-- Settles O53: BRK is `enterVector` with break bit 1 and the address past its padding byte. -/
theorem breakEffect : Obligations.BreakEffect := by
  refine ⟨rowsOf_of_grid (by decide), fun s => ?_⟩
  obtain ⟨-, -, h5, h4, -, h2, -⟩ := s.flags.packP_bits true
  refine ⟨_, _, exec_brk s, rfl, h5, h4, h2, ?effect, ?accesses⟩
  case effect =>
    rw [← entryMemory_eq, enterVector_eq]
    rfl
  case accesses =>
    have hopcode : s.pc + 0 = s.pc := BitVec.add_zero s.pc
    calc instrAccesses .brk s
      _ = Access.fetch (s.pc + 0) :: entryAccesses s.sp irqVector := rfl
      _ = _ := by rw [hopcode, entryAccesses_eq]; rfl

theorem exec_rti (s : State) : exec .rti s = .next (s.returnFromInterrupt.setDebt 5) := rfl

theorem returnFromInterrupt_eq (s : State) :
    s.returnFromInterrupt = { s with
      sp := s.sp + 3
      flags := s.flags.unpackP s.pulled8
      pc := s.pull8.pulledWord } := by
  rw [add_three_eq]
  rfl

/-- The word RTI pulls lies above the status byte. -/
theorem pull8_pulledWord_toNat (s : State) :
    s.pull8.pulledWord.toNat = wordAt s (0x0100 + (s.sp.toNat + 2) % 256) (0x0100 + (s.sp.toNat + 3) % 256) := by
  have h := pulledWord_toNat s.pull8
  rwa [State.pull8_sp, BitVec.toNat_add, Nat.mod_add_mod, Nat.mod_add_mod] at h

/-- When RTI loads I = 0 under an asserted IRQ line, the boundary after its 6 cycles takes the IRQ: three bytes pulled
and three pushed. -/
theorem rti_then_irq (s : State) (hj : s.jammed = false) (hirq : s.irqLine = true) (hn : s.nmiPending = false)
    (hpulled : s.pulled8.getLsbD 2 = false) :
    ∃ t u, exec .rti s = .next t ∧ Host.Core.run core 6 t = .next u ∧ u.pc = word (u.load 0xFFFF) (u.load 0xFFFE) ∧
      u.sp = s.sp ∧ u.flags.i = true := by
  obtain ⟨u, hrun, hpc, hsp, hi⟩ := run_takes_irq (s := s.returnFromInterrupt.setDebt 5) (k := 5)
    (by simpa using hj) rfl (by simpa using hn) ⟨by simpa using hirq, hpulled⟩
  have hpulledAndPushed : s.sp + 1 + 1 + 1 - 3 = s.sp := by bv_omega
  exact ⟨_, u, exec_rti s, hrun, hpc, hsp.trans hpulledAndPushed, hi⟩

/-- Settles O54: RTI is one `Pull8` through `UnpackP` and one `PullWord` to PC. -/
theorem returnFromInterruptEffect : Obligations.ReturnFromInterruptEffect := by
  refine ⟨rowsOf_of_grid (by decide), fun s v hv => ?_, rti_then_irq⟩
  rw [← stackAddr_add_one] at hv
  subst hv
  rw [exec_rti, returnFromInterrupt_eq, eq_ofNat_of_toNat_eq (pull8_pulledWord_toNat s)]
  rfl

/-! An entry, then RTI. -/

/-- On the stack an entry left, RTI finds the flags and the return address it pushed. -/
theorem returnFromInterrupt_entry {s e : State} {returnPc : Word} {b4 : Bool} (hw : s.mem.wf = true)
    (hsp : e.sp = s.sp - 1 - 1 - 1) (hmem : e.mem = entryMemory s returnPc b4) (hb : e.flags.b = s.flags.b) :
    e.returnFromInterrupt.sp = s.sp ∧ e.returnFromInterrupt.pc = returnPc ∧
      e.returnFromInterrupt.flags = s.flags := by
  obtain ⟨hhi, hlo, himage⟩ := entryMemory_pushed s returnPc b4 hw
  refine ⟨by simp [hsp], ?pc, ?flags⟩
  case pc =>
    have h1 : e.sp + 1 + 1 = s.sp - 1 := by rw [hsp]; bv_omega
    have h2 : s.sp - 1 + 1 = s.sp := sub_add_one s.sp
    rw [State.returnFromInterrupt_pc, h1, h2, hmem, hhi, hlo, word_hi8_lo8]
  case flags =>
    have h1 : e.sp + 1 = s.sp - 1 - 1 := by rw [hsp]; exact sub_add_one _
    have hunpack (v : Byte) : e.flags.unpackP v = s.flags.unpackP v := by simp [Flags.unpackP, hb]
    rw [State.returnFromInterrupt_flags, h1, hmem, himage, hunpack, Flags.unpackP_packP]

theorem entryMemory_load_ne (s : State) (returnPc : Word) (b4 : Bool) :
    ∀ a : Word, a ≠ stackAddr s.sp → a ≠ stackAddr (s.sp - 1) → a ≠ stackAddr (s.sp - 2) →
      (entryMemory s returnPc b4).read a = s.mem.read a := fun a h0 h1 h2 =>
  entryMemory_read_ne s returnPc a b4 h0 h1 (sub_two_eq s.sp ▸ h2)

/-- Settles O17: RTI pulls what the entry pushed. -/
theorem returnFromInterruptResumesTheProgram : Obligations.ReturnFromInterruptResumesTheProgram := by
  intro s t hw hj hd h ht
  obtain ⟨vector, htakes⟩ := exists_takes h
  obtain rfl : _ = t := Host.Outcome.next.inj ((step_of_takes hj hd htakes).symm.trans ht)
  obtain ⟨hsp, hpc, hflags⟩ := returnFromInterrupt_entry (s := s) (returnPc := s.pc) (b4 := false)
    (e := { ({ s with nmiPending := false }.interrupt vector) with cycleDebt := 0 }) hw (by simp)
    (by simp [entryMemory]) (by simp)
  refine ⟨_, exec_rti _, by simp, by simp, by simp, hsp, hpc, hflags, by simp, fun a h0 h1 h2 => ?_⟩
  simpa [entryMemory] using entryMemory_load_ne s s.pc false a h0 h1 h2

/-- Settles O55: RTI pulls what BRK pushed. -/
theorem returnFollowsBreak : Obligations.ReturnFollowsBreak := by
  intro s hw
  obtain ⟨hsp, hpc, hflags⟩ := returnFromInterrupt_entry (s := s) (returnPc := s.pc + 2) (b4 := true)
    (e := (s.enterVector irqVector (s.pc + 2) true).setDebt 6) hw (by simp) (by simp) (by simp)
  refine ⟨_, _, exec_brk s, exec_rti _, hpc, hsp, by simp, by simp, by simp, hflags, fun a h0 h1 h2 => ?_⟩
  simpa using entryMemory_load_ne s (s.pc + 2) true a h0 h1 h2

/-! JSR, then RTS (47_jump.md R193). -/

/-- The word pulled is the one last pushed. -/
theorem pulledWord_pushWord (s : State) (w : Word) (hw : s.mem.wf = true) : (s.pushWord w).pulledWord = w := by
  have hw1 := Memory.wf_write s.mem (stackAddr s.sp) (hi8 w) hw
  have hhi : (s.pushWord w).mem.read (stackAddr s.sp) = hi8 w := by
    rw [State.pushWord_mem, Memory.read_write_ne _ _ _ _ (by simp), Memory.read_write_same _ _ _ hw]
  have hlo : (s.pushWord w).mem.read (stackAddr (s.sp - 1)) = lo8 w := Memory.read_write_same _ _ _ hw1
  have h1 : s.sp - 1 - 1 + 1 = s.sp - 1 := sub_add_one _
  have h2 : s.sp - 1 + 1 = s.sp := sub_add_one _
  rw [State.pulledWord_eq, State.pushWord_sp, h1, h2, hhi, hlo, word_hi8_lo8]

/-- Settles O50: RTS pulls the address of JSR's last byte and goes one past it. -/
theorem returnFollowsCall : Obligations.ReturnFollowsCall := by
  intro s w hw
  have hpc : s.pc + 2 + 1 = s.pc + 3 := by bv_omega
  have hsp : s.sp - 1 - 1 + 1 + 1 = s.sp := by bv_omega
  have hpulled : ((s.pastInstr (.abs w)).pushWord (s.pc + 2)).pulledWord + 1 = s.pc + 3 := by
    rw [pulledWord_pushWord (s.pastInstr (.abs w)) _ hw, hpc]
  refine ⟨_, _, exec_jsr w s, exec_rts _, hpulled, hsp, by simp, by simp, by simp, by simp, fun a h0 h1 => ?_⟩
  exact (Memory.read_write_ne _ _ _ _ h1).trans (Memory.read_write_ne _ _ _ _ h0)

end Sys2Proof.Machine
end

section
/-! Branches (48_branch.md R200 to R208; 30_encoding.md R88, R101). -/

namespace Sys2Proof

/-- The target of a branch in numbers (R200). -/
theorem branchTarget_eq (pc : Word) (b : Byte) : branchTarget pc b = BitVec.ofInt 16 (pc.toNat + 2 + b.toInt) := by
  simp [branchTarget, sext16_eq, BitVec.ofInt_add]

/-- A byte read as a number is the word it is the low byte of, when that word lies in the range of a byte. -/
theorem sext16_lo8_eq_iff (w : Word) : sext16 (lo8 w) = w ↔ -128 ≤ w.toInt ∧ w.toInt ≤ 127 := by
  have hw : w.toNat < 65536 := w.isLt
  rw [← BitVec.toInt_inj, sext16_toInt, Machine.byte_toInt_eq, lo8_toNat, BitVec.toInt_eq_toNat_cond]
  split <;> split <;> omega

theorem branchOperand_isSome_iff (pc target : Word) :
    (branchOperand pc target).isSome = true ↔
      -128 ≤ (target - (pc + 2)).toInt ∧ (target - (pc + 2)).toInt ≤ 127 := by
  rw [← sext16_lo8_eq_iff, branchOperand]
  split <;> simpa

/-- The byte the assembler writes leads back to the target. -/
theorem branchTarget_of_branchOperand {pc target : Word} {b : Byte} (h : branchOperand pc target = some b) :
    branchTarget pc b = target := by
  simp only [branchOperand] at h
  split at h
  · next hoffset =>
    obtain rfl := Option.some.inj h
    rw [branchTarget, hoffset]
    bv_omega
  · contradiction

namespace Machine

/-- The relative mode resolves to the assembler's target (30_encoding.md R88, R101). -/
theorem resolve_rel_eq (s : State) (b : Byte) :
    resolve (.rel b) (s.pastInstr (.rel b)) =
      { ea := some (branchTarget s.pc b), crossed := page (branchTarget s.pc b) != page (s.pc + 2) } := rfl

/-- Settles O5: the assembler's offset is the one the relative mode adds, and it is found when it fits a byte. -/
theorem branchOperandReachesItsTarget : Obligations.BranchOperandReachesItsTarget := by
  refine fun s target => ⟨fun b i hb hi => ?_, branchOperand_isSome_iff s.pc target⟩
  rw [address, Instr.resolved, hi, resolve_rel_eq, branchTarget_of_branchOperand hb]

/-- A branch has 2 base cycles and tests the condition of its mnemonic. -/
theorem mnemonic_of_branch {i : Instr} (h : Instr.cls i = .branch) :
    i.mnemonic ≠ .illegal ∧ handlerOf i.mnemonic = branch (branchCondition i.mnemonic) ∧
      ∀ mode, baseCycles i.mnemonic mode = 2 := by
  unfold Instr.cls at h
  generalize i.mnemonic = mn at *
  cases mn with
  | bcc | bcs | beq | bne | bmi | bpl | bvc | bvs => exact ⟨nofun, rfl, fun _ => rfl⟩
  | asl | lsr | rol | ror =>
    dsimp only at h
    split at h <;> contradiction
  | _ => contradiction

/-- A branch does nothing but move PC, and its cycles follow from the condition and the page of its target (R200). -/
theorem exec_branch {i : Instr} {b : Byte} (s : State) (hcls : Instr.cls i = .branch) (hi : i.operand = .rel b) :
    exec i s = .next { s with
      pc := if branchCondition i.mnemonic s.flags then branchTarget s.pc b else s.pc + 2
      cycleDebt :=
        if branchCondition i.mnemonic s.flags then
          (if page (branchTarget s.pc b) != page (s.pc + 2) then 3 else 2)
        else 1 } := by
  obtain ⟨hmn, hhandler, hbase⟩ := mnemonic_of_branch hcls
  rw [exec_eq_run i s hmn, run, hhandler, hbase, hi, branch]
  by_cases hcond : branchCondition i.mnemonic s.flags = true
  · have hcond' : branchCondition i.mnemonic (s.pastInstr (.rel b)).flags = true := hcond
    simp only [if_pos hcond, if_pos hcond', jumpTo, resolve_rel_eq]
    by_cases hpage : (page (branchTarget s.pc b) != page (s.pc + 2)) = true
    · simp only [hpage, reduceIte]
      rfl
    · simp only [hpage]
      rfl
  · have hcond' : ¬ branchCondition i.mnemonic (s.pastInstr (.rel b)).flags = true := hcond
    simp only [if_neg hcond, if_neg hcond']
    rfl

/-- A branch fetches its opcode and its operand byte and nothing else, taken or not. -/
theorem instrAccesses_branch {i : Instr} {b : Byte} (s : State) (hcls : Instr.cls i = .branch)
    (hi : i.operand = .rel b) :
    instrAccesses i s = [.fetch s.pc, .fetch (s.pc + 1)] := by
  have hopcode : s.pc + 0 = s.pc := BitVec.add_zero s.pc
  rw [instrAccesses, handlerAccesses_eq _ (by simp [hcls]), hcls, Instr.length, hi]
  calc _
    _ = [Access.fetch (s.pc + 0), .fetch (s.pc + 1)] := rfl
    _ = _ := by rw [hopcode]

/-- Two addresses lie in one page when they have the same quotient by 256 (R91). -/
theorem page_bne_iff (u v : Word) : (page u != page v) = true ↔ u / 256 ≠ v / 256 := by
  rw [page_bne, decide_eq_true_iff, ne_eq, ne_eq, ← BitVec.toNat_inj]
  simp

/-- Settles O51: each of the eight is a branch in relative mode with the condition listed for it. -/
theorem branchEffects : Obligations.BranchEffects := by
  refine ⟨rowsOf_of_grid (by decide), rowsOf_of_grid (by decide), rowsOf_of_grid (by decide),
    rowsOf_of_grid (by decide), rowsOf_of_grid (by decide), rowsOf_of_grid (by decide), rowsOf_of_grid (by decide),
    rowsOf_of_grid (by decide), fun b s i cond h => ?_⟩
  obtain ⟨hcls, hi, rfl⟩ :
      Instr.cls i = .branch ∧ i.operand = .rel b ∧ branchCondition i.mnemonic s.flags = cond := by
    simp only [List.mem_cons, Prod.mk.injEq, List.not_mem_nil, or_false] at h
    rcases h with ⟨rfl, rfl⟩ | ⟨rfl, rfl⟩ | ⟨rfl, rfl⟩ | ⟨rfl, rfl⟩ | ⟨rfl, rfl⟩ | ⟨rfl, rfl⟩ | ⟨rfl, rfl⟩ | ⟨rfl, rfl⟩
    all_goals exact ⟨rfl, rfl, rfl⟩
  refine ⟨?_, instrAccesses_branch s hcls hi⟩
  rw [exec_branch s hcls hi, ← branchTarget_eq]
  simp only [page_bne_iff, ne_eq, ite_not]

end Machine

end Sys2Proof
end

section
/-! Flag instructions and NOP (49_flag_system.md R215 to R222). -/

namespace Sys2Proof.Machine

theorem exec_cli (s : State) :
    exec .cli s = .next (completed .cli s { s with flags := { s.flags with i := false } }) :=
  exec_eq_completed (mn := .cli) rfl (by decide) rfl

/-- After CLI an asserted IRQ line is served at the boundary that follows its 2 cycles (R217). -/
theorem cli_then_irq (s : State) (hj : s.jammed = false) (hirq : s.irqLine = true) (hn : s.nmiPending = false) :
    ∃ t u, exec .cli s = .next t ∧ Host.Core.run core 2 t = .next u ∧ u.pc = word (u.load 0xFFFF) (u.load 0xFFFE) ∧
      u.sp = s.sp - 3 ∧ u.flags.i = true := by
  obtain ⟨u, hrun, hpc, hsp, hi⟩ := run_takes_irq
    (s := completed .cli s { s with flags := { s.flags with i := false } }) hj rfl hn ⟨hirq, rfl⟩
  exact ⟨_, u, exec_cli s, hrun, hpc, hsp, hi⟩

/-- NOP fetches its opcode byte alone (R222). -/
theorem instrAccesses_nop (s : State) : instrAccesses .nop s = [.fetch s.pc] :=
  congrArg (fun a => [Access.fetch a]) (BitVec.add_zero s.pc)

/-- Settles O52: each handler writes one flag, NOP's none. -/
theorem flagInstructionEffects : Obligations.FlagInstructionEffects :=
  ⟨rowsOf_of_grid (by decide), rowsOf_of_grid (by decide), rowsOf_of_grid (by decide),
    rowsOf_of_grid (by decide), rowsOf_of_grid (by decide), rowsOf_of_grid (by decide),
    rowsOf_of_grid (by decide), rowsOf_of_grid (by decide),
    fun _ => exec_eq_completed (mn := .clc) rfl (by decide) rfl,
    fun _ => exec_eq_completed (mn := .sec) rfl (by decide) rfl,
    exec_cli,
    fun _ => exec_eq_completed (mn := .sei) rfl (by decide) rfl,
    fun _ => exec_eq_completed (mn := .cld) rfl (by decide) rfl,
    fun _ => exec_eq_completed (mn := .sed) rfl (by decide) rfl,
    fun _ => exec_eq_completed (mn := .clv) rfl (by decide) rfl,
    fun s => ⟨exec_eq_completed (mn := .nop) rfl (by decide) rfl, instrAccesses_nop s⟩,
    cli_then_irq⟩

end Sys2Proof.Machine
end

section
/-! The flags of decimal arithmetic (44_arithmetic.md R153, R155, R156). -/

namespace Sys2Proof.Machine

/-- The sign rule for V on any result: the operands' signs stand in the given relation and the result's differs. -/
theorem decAdc_v_iff (a m : Byte) (cin : Bool) :
    (decAdc a m cin).v = true ↔ a.getLsbD 7 = m.getLsbD 7 ∧ (decAdc a m cin).result.getLsbD 7 ≠ a.getLsbD 7 := by
  simp [decAdc, aluResult]

theorem decSbc_v_iff (a m : Byte) (cin : Bool) :
    (decSbc a m cin).v = true ↔ a.getLsbD 7 ≠ m.getLsbD 7 ∧ (decSbc a m cin).result.getLsbD 7 ≠ a.getLsbD 7 := by
  simp [decSbc, aluResult]

/-- The decimal subtraction borrows exactly when the binary one does. -/
theorem decSbc_c (a m : Byte) (cin : Bool) : (decSbc a m cin).c = (addBinary a (~~~m) cin).c := by
  have hborrow : ((!cin).toNat : Int) = 1 - cin.toNat := by cases cin <;> rfl
  rw [Bool.eq_iff_iff, addBinary_complement_c_iff, ← hborrow]
  exact decide_eq_true_iff

/-- Settles O42: both definitions end in `aluResult`, and the example is computed. -/
theorem decimalFlagsFollowTheResult : Obligations.DecimalFlagsFollowTheResult :=
  ⟨fun a m cin => ⟨⟨rfl, rfl, decAdc_v_iff a m cin⟩, rfl, rfl, decSbc_v_iff a m cin, decSbc_c a m cin⟩,
    by decide, by decide⟩

end Sys2Proof.Machine
end

section
/-! What no instruction touches outside its rows of the summaries: PC (70_reset_and_hazards.md R301), flags (10_state.md
R45) and registers (R44). -/

namespace Sys2Proof.Machine

/-! PC. -/

/-- Only a handler that transfers control writes PC. -/
theorem handlerOf_pc {mn : Mnemonic} (h : transfersControl mn = false) (o : Operand) (s : State) :
    (handlerOf mn o s).1.pc = s.pc := by
  cases mn with
  | jmp | jsr | rts | rti | brk | bcc | bcs | beq | bne | bmi | bpl | bvc | bvs | illegal => contradiction
  | sta | stx | sty | inc | dec | asl | lsr | rol | ror => exact writeOp_pc _ _ _
  | _ => rfl

theorem branch_pc_of_not_taken {i : Instr} {s : State} (hcls : Instr.cls i = .branch)
    (hcond : branchCondition i.mnemonic s.flags = false) (o : Operand) :
    (handlerOf i.mnemonic o s).1.pc = s.pc := by
  obtain ⟨-, hhandler, -⟩ := mnemonic_of_branch hcls
  rw [hhandler, branch_fst, if_neg (by simp [hcond])]

/-- Settles O20: PC was moved past the instruction before its handler ran, which leaves it. -/
theorem pcAdvancesByTheLength : Obligations.PcAdvancesByTheLength := by
  intro i s t ht h
  obtain ⟨hi, hpc⟩ : i.mnemonic ≠ .illegal ∧
      (handlerOf i.mnemonic i.operand (s.pastInstr i.operand)).1.pc = (s.pastInstr i.operand).pc := by
    rcases h with htransfers | ⟨hcls, hcond⟩
    · exact ⟨fun hi => by simp [hi, transfersControl] at htransfers, handlerOf_pc htransfers _ _⟩
    · exact ⟨(mnemonic_of_branch hcls).1, branch_pc_of_not_taken (s := s.pastInstr i.operand) hcls hcond _⟩
  rw [exec_inversion hi ht, State.setDebt_pc, hpc, pastInstr_pc_toNat]

/-! Flags. -/

/-- The flags `g` differ from `f` at most where `w` is set, and not in B. -/
structure Flags.ChangedWithin (w f g : Flags) : Prop where
  n : w.n = false → g.n = f.n
  v : w.v = false → g.v = f.v
  d : w.d = false → g.d = f.d
  i : w.i = false → g.i = f.i
  z : w.z = false → g.z = f.z
  c : w.c = false → g.c = f.c
  b : g.b = f.b

theorem Flags.changedWithin_of_eq {f g : Flags} (h : g = f) (w : Flags) : w.ChangedWithin f g := by
  subst h
  exact ⟨fun _ => rfl, fun _ => rfl, fun _ => rfl, fun _ => rfl, fun _ => rfl, fun _ => rfl, rfl⟩

/-- `SetZN` changes N and Z alone. -/
theorem Flags.changedWithin_setZN {f g : Flags} (h : g = f) (v : Byte) :
    { Flags.none with n := true, z := true }.ChangedWithin f (g.setZN v) := by
  subst h
  exact ⟨nofun, fun _ => rfl, fun _ => rfl, fun _ => rfl, nofun, fun _ => rfl, rfl⟩

/-- A branch changes PC alone. -/
theorem branch_eq_setPc (cond : Flags → Bool) (o : Operand) (s : State) :
    ∃ w, (branch cond o s).1 = s.setPc w := by
  rw [branch_fst, jumpTo]
  split
  · split
    · exact ⟨_, rfl⟩
    · exact ⟨s.pc, rfl⟩
  · exact ⟨s.pc, rfl⟩

/-- JSR pushes a word and goes to its operand's address; the modes without one are not JSR's. -/
theorem jsrHandler_cases (o : Operand) (s : State) :
    (∃ ea, (resolve o s).ea = some ea ∧ (jsrHandler o s).1 = (s.pushWord (s.pc - 1)).setPc ea) ∨
      ((resolve o s).ea = none ∧ (jsrHandler o s).1 = s) := by
  simp only [jsrHandler, noExtra]
  split
  · next ea h => exact .inl ⟨ea, h, rfl⟩
  · next h => exact .inr ⟨h, rfl⟩

/-- The summary of R45, row by row. -/
theorem handlerOf_flags (mn : Mnemonic) (o : Operand) (s : State) :
    (flagsWritten mn).ChangedWithin s.flags (handlerOf mn o s).1.flags := by
  cases mn with
  | adc | sbc => exact ⟨nofun, nofun, fun _ => rfl, fun _ => rfl, nofun, nofun, rfl⟩
  | asl | lsr | rol | ror | cmp | cpx | cpy =>
    exact ⟨nofun, fun _ => rfl, fun _ => rfl, fun _ => rfl, nofun, nofun, rfl⟩
  | bit => exact ⟨nofun, nofun, fun _ => rfl, fun _ => rfl, nofun, fun _ => rfl, rfl⟩
  | and | ora | eor | inx | iny | dex | dey | lda | ldx | ldy | tax | tay | tsx | txa | tya | pla =>
    exact Flags.changedWithin_setZN rfl _
  | inc | dec => exact Flags.changedWithin_setZN (writeOp_flags _ _ _) _
  | plp => exact ⟨nofun, nofun, nofun, nofun, nofun, nofun, rfl⟩
  | rti => exact ⟨nofun, nofun, nofun, nofun, nofun, nofun, (returnFromInterrupt_keeps s).flagB⟩
  | clc | sec => exact ⟨fun _ => rfl, fun _ => rfl, fun _ => rfl, fun _ => rfl, fun _ => rfl, nofun, rfl⟩
  | cld | sed => exact ⟨fun _ => rfl, fun _ => rfl, nofun, fun _ => rfl, fun _ => rfl, fun _ => rfl, rfl⟩
  | cli | sei | brk => exact ⟨fun _ => rfl, fun _ => rfl, fun _ => rfl, nofun, fun _ => rfl, fun _ => rfl, rfl⟩
  | clv => exact ⟨fun _ => rfl, nofun, fun _ => rfl, fun _ => rfl, fun _ => rfl, fun _ => rfl, rfl⟩
  | txs | pha | php | rts | nop | illegal => exact Flags.changedWithin_of_eq rfl _
  | sta | stx | sty => exact Flags.changedWithin_of_eq (writeOp_flags _ _ _) _
  | jmp => exact Flags.changedWithin_of_eq (jumpTo_flags _ _) _
  | jsr =>
    show (flagsWritten .jsr).ChangedWithin s.flags (jsrHandler o s).1.flags
    rcases jsrHandler_cases o s with ⟨ea, -, h⟩ | ⟨-, h⟩
    all_goals
      rw [h]
      exact Flags.changedWithin_of_eq rfl _
  | bcc | bcs | beq | bne | bmi | bpl | bvc | bvs =>
    obtain ⟨w, h⟩ := branch_eq_setPc _ o s
    exact Flags.changedWithin_of_eq (congrArg State.flags h) _

theorem exec_flags {i : Instr} {s t : State} (ht : exec i s = .next t) :
    (flagsWritten i.mnemonic).ChangedWithin s.flags t.flags := by
  by_cases hi : i.mnemonic = .illegal
  · obtain ⟨op, rfl⟩ := mnemonic_illegal i hi
    obtain rfl := Host.Outcome.next.inj ((exec_illegal op s).symm.trans ht)
    exact Flags.changedWithin_of_eq rfl _
  · rw [exec_inversion hi ht]
    exact handlerOf_flags i.mnemonic i.operand (s.pastInstr i.operand)

/-- Settles O24: instruction by instruction the handler's row, and an entry sets I. -/
theorem flagFrame : Obligations.FlagFrame := by
  refine ⟨fun i s t ht => ?instruction, fun s t hj hd h ht => ?entry⟩
  case instruction =>
    obtain ⟨hn, hv, hd, hi, hz, hc, hb⟩ := exec_flags ht
    exact ⟨hn, hv, hd, hi, hz, hc, hb⟩
  case entry =>
    obtain ⟨vector, htakes⟩ := exists_takes h
    obtain rfl := Host.Outcome.next.inj ((step_of_takes hj hd htakes).symm.trans ht)
    exact State.interrupt_flags _ vector

/-! Registers. -/

/-- State `t` differs from `s` in A, X, Y, SP at most where `w` says, and not in the interrupt lines. -/
structure State.ChangedWithin (w : RegSet) (s t : State) : Prop where
  a : w.a = false → t.a = s.a
  x : w.x = false → t.x = s.x
  y : w.y = false → t.y = s.y
  sp : w.sp = false → t.sp = s.sp
  nmiPending : t.nmiPending = s.nmiPending
  irqLine : t.irqLine = s.irqLine

theorem State.changedWithin_setPc (w : RegSet) (s : State) (pc : Word) : s.ChangedWithin w (s.setPc pc) :=
  ⟨fun _ => rfl, fun _ => rfl, fun _ => rfl, fun _ => rfl, rfl, rfl⟩

/-- An instruction of a class that accesses its operand has an effective address. -/
theorem ea_of_cls {i : Instr} (hcls : Instr.cls i ≠ .other) (s : State) :
    ∃ ea, (resolve i.operand s).ea = some ea := by
  have hallows := operand_allows_cls i
  cases hea : (resolve i.operand s).ea with
  | some ea => exact ⟨ea, rfl⟩
  | none =>
    rcases (resolve_ea_none _ _).mp hea with ho | ho
    all_goals
      rw [ho] at hallows
      exact absurd (of_decide_eq_true hallows) hcls

/-- Writing such an operand leaves A. -/
theorem writeOp_a {i : Instr} (hcls : Instr.cls i ≠ .other) (v : Byte) (s : State) :
    (writeOp i.operand v s).a = s.a := by
  obtain ⟨ea, hea⟩ := ea_of_cls hcls s
  rw [writeOp_eq_store hea, State.store_a]

theorem writeOp_changedWithin {o : Operand} {v : Byte} {s : State} {w : RegSet}
    (ha : w.a = false → (writeOp o v s).a = s.a) : s.ChangedWithin w (writeOp o v s) :=
  ⟨ha, fun _ => writeOp_x o v s, fun _ => writeOp_y o v s, fun _ => writeOp_sp o v s, writeOp_nmiPending o v s,
    writeOp_irqLine o v s⟩

theorem State.ChangedWithin.setFlags {w : RegSet} {s t : State} (h : s.ChangedWithin w t) (f : Flags) :
    s.ChangedWithin w (t.setFlags f) :=
  ⟨h.a, h.x, h.y, h.sp, h.nmiPending, h.irqLine⟩

/-- The summary of R44, row by row. -/
theorem handlerOf_regs (i : Instr) (s : State) :
    s.ChangedWithin (regsWritten i.mnemonic i.operand.mode) (handlerOf i.mnemonic i.operand s).1 := by
  cases hmn : i.mnemonic with
  | adc | sbc | and | ora | eor | lda | txa | tya =>
    exact ⟨nofun, fun _ => rfl, fun _ => rfl, fun _ => rfl, rfl, rfl⟩
  | pla => exact ⟨nofun, fun _ => rfl, fun _ => rfl, nofun, rfl, rfl⟩
  | inx | dex | ldx | tax | tsx => exact ⟨fun _ => rfl, nofun, fun _ => rfl, fun _ => rfl, rfl, rfl⟩
  | iny | dey | ldy | tay => exact ⟨fun _ => rfl, fun _ => rfl, nofun, fun _ => rfl, rfl, rfl⟩
  | txs | pha | php | plp | rts => exact ⟨fun _ => rfl, fun _ => rfl, fun _ => rfl, nofun, rfl, rfl⟩
  | brk =>
    exact ⟨fun _ => State.enterVector_a .., fun _ => State.enterVector_x .., fun _ => State.enterVector_y .., nofun,
      State.enterVector_nmiPending .., State.enterVector_irqLine ..⟩
  | rti =>
    exact ⟨fun _ => State.returnFromInterrupt_a s, fun _ => State.returnFromInterrupt_x s,
      fun _ => State.returnFromInterrupt_y s, nofun, State.returnFromInterrupt_nmiPending s,
      State.returnFromInterrupt_irqLine s⟩
  | jsr =>
    show s.ChangedWithin (regsWritten .jsr i.operand.mode) (jsrHandler i.operand s).1
    rcases jsrHandler_cases i.operand s with ⟨ea, -, h⟩ | ⟨-, h⟩
    all_goals
      rw [h]
      exact ⟨fun _ => rfl, fun _ => rfl, fun _ => rfl, nofun, rfl, rfl⟩
  | bit | cmp | cpx | cpy | nop | clc | sec | cli | sei | cld | sed | clv | illegal =>
    exact ⟨fun _ => rfl, fun _ => rfl, fun _ => rfl, fun _ => rfl, rfl, rfl⟩
  | jmp =>
    exact ⟨fun _ => jumpTo_a _ s, fun _ => jumpTo_x _ s, fun _ => jumpTo_y _ s, fun _ => jumpTo_sp _ s,
      jumpTo_nmiPending _ s, jumpTo_irqLine _ s⟩
  | bcc | bcs | beq | bne | bmi | bpl | bvc | bvs =>
    obtain ⟨w, h⟩ := branch_eq_setPc (branchCondition i.mnemonic) i.operand s
    rw [hmn] at h
    exact h ▸ State.changedWithin_setPc _ s w
  | sta | stx | sty => exact writeOp_changedWithin fun _ => writeOp_a (by simp [Instr.cls, hmn]) _ s
  | inc | dec =>
    exact (writeOp_changedWithin fun _ => writeOp_a (by simp [Instr.cls, hmn]) _ s).setFlags _
  | asl | lsr | rol | ror =>
    have hcls (h : decide (i.operand.mode = .acc) = false) : Instr.cls i ≠ .other := by
      simp [Instr.cls, hmn, of_decide_eq_false h]
    exact (writeOp_changedWithin fun h => writeOp_a (hcls h) _ s).setFlags _

/-- Settles O25: instruction by instruction the handler's row; an illegal opcode only jams. -/
theorem registerFrame : Obligations.RegisterFrame := by
  intro i s t ht
  by_cases hi : i.mnemonic = .illegal
  · obtain ⟨op, rfl⟩ := mnemonic_illegal i hi
    obtain rfl := Host.Outcome.next.inj ((exec_illegal op s).symm.trans ht)
    exact ⟨fun _ => rfl, fun _ => rfl, fun _ => rfl, fun _ => rfl, rfl, rfl, fun h => absurd hi h⟩
  · have hjammed := exec_jammed hi ht
    obtain rfl := exec_inversion hi ht
    obtain ⟨ha, hx, hy, hsp, hnmi, hirq⟩ := handlerOf_regs i (s.pastInstr i.operand)
    exact ⟨ha, hx, hy, hsp, hnmi, hirq, fun _ => hjammed⟩

end Sys2Proof.Machine
end

section
/-! What an instruction and a tick store (20_memory.md R66): no byte outside the stores of the access list. -/

namespace Sys2Proof.Machine

/-- The memory operand of an instruction that writes it: its effective address. -/
theorem memoryOperand_eq {o : Operand} (himm : ∀ b : Byte, o ≠ .imm b) (s : State) :
    memoryOperand o s = (resolve o s).ea.toList := by
  unfold memoryOperand
  split
  · next b => exact absurd rfl (himm b)
  · rfl

/-- Only instructions of class `read` have an IMM operand. -/
theorem operand_ne_imm {i : Instr} (hcls : Instr.cls i ≠ .read) (b : Byte) : i.operand ≠ .imm b := by
  have hallows := operand_allows_cls i
  intro ho
  rw [ho] at hallows
  exact hcls (of_decide_eq_true hallows)

/-- Writing its operand, an instruction stores to its memory operand and nowhere else. -/
theorem writeOp_frame {i : Instr} (hcls : Instr.cls i ≠ .read) {s : State} {a : Word}
    (h : a ∉ memoryOperand i.operand s) (v : Byte) : (writeOp i.operand v s).mem.read a = s.mem.read a := by
  rw [memoryOperand_eq (operand_ne_imm hcls)] at h
  rcases writeOp_cases i.operand v s with ⟨ea, hea, hw⟩ | ⟨-, hw⟩
  · rw [hea] at h
    rw [hw, State.store_mem, Memory.read_write_ne _ _ _ _ (by simpa using h)]
  · rw [hw, State.setA_mem]

theorem entryMemory_frame {s : State} {a vector : Word} (h : Access.store a ∉ entryAccesses s.sp vector)
    (returnPc : Word) (b4 : Bool) : (entryMemory s returnPc b4).read a = s.mem.read a := by
  simp only [entryAccesses, List.mem_cons, Access.store.injEq, not_or] at h
  obtain ⟨h0, h1, h2, -⟩ := h
  exact entryMemory_read_ne s returnPc a b4 h0 h1 h2

theorem pushWord_frame {s : State} {a : Word} (h0 : a ≠ stackAddr s.sp) (h1 : a ≠ stackAddr (s.sp - 1)) (w : Word) :
    (s.pushWord w).mem.read a = s.mem.read a :=
  (Memory.read_write_ne _ _ _ _ h1).trans (Memory.read_write_ne _ _ _ _ h0)

/-- The class of a shift is not `read`, in either of its forms (46_shift.md). -/
theorem cls_ne_read_of_shift {i : Instr} (h : Instr.cls i = if i.operand.mode = .acc then .other else .rmw) :
    Instr.cls i ≠ .read := by
  rw [h]
  split <;> decide

theorem handlerOf_mem_frame {i : Instr} {s : State} {a : Word} (h : Access.store a ∉ handlerAccesses i s) :
    (handlerOf i.mnemonic i.operand s).1.mem.read a = s.mem.read a := by
  cases hmn : i.mnemonic with
  | sta | stx | sty | inc | dec =>
    exact writeOp_frame (by simp [Instr.cls, hmn]) (by simpa [handlerAccesses, hmn] using h) _
  | asl | lsr | rol | ror =>
    exact writeOp_frame (cls_ne_read_of_shift (by simp [Instr.cls, hmn])) (by simpa [handlerAccesses, hmn] using h) _
  | pha | php =>
    exact Memory.read_write_ne _ _ _ _ (by simpa [handlerAccesses, hmn] using h)
  | jsr =>
    show (jsrHandler i.operand s).1.mem.read a = s.mem.read a
    obtain ⟨h0, h1⟩ : a ≠ stackAddr s.sp ∧ a ≠ stackAddr (s.sp - 1) := by simpa [handlerAccesses, hmn] using h
    rcases jsrHandler_cases i.operand s with ⟨ea, -, hjsr⟩ | ⟨-, hjsr⟩
    · rw [hjsr, State.setPc_mem, pushWord_frame h0 h1]
    · rw [hjsr]
  | brk =>
    have hframe := entryMemory_frame (s := s) (vector := irqVector) (by simpa [handlerAccesses, hmn] using h)
    exact (congrArg (Memory.read · a) (State.enterVector_mem _ _ _ _)).trans (hframe _ _)
  | rti => exact congrArg (Memory.read · a) (State.returnFromInterrupt_mem s)
  | jmp => exact congrArg (Memory.read · a) (jumpTo_mem _ _)
  | bcc | bcs | beq | bne | bmi | bpl | bvc | bvs =>
    obtain ⟨w, hbranch⟩ := branch_eq_setPc (branchCondition i.mnemonic) i.operand s
    rw [hmn] at hbranch
    exact congrArg (fun t => t.mem.read a) hbranch
  | _ => rfl

theorem exec_mem_frame {i : Instr} {s t : State} {a : Word} (ht : exec i s = .next t)
    (h : Access.store a ∉ instrAccesses i s) : t.mem.read a = s.mem.read a := by
  obtain ⟨t', ht', hmem⟩ := exec_mem i s
  obtain rfl := Host.Outcome.next.inj (ht.symm.trans ht')
  rw [hmem]
  exact handlerOf_mem_frame fun hstore => h (List.mem_append_right _ hstore)

theorem step_mem_frame {s t : State} {a : Word} (ht : step s = .next t) (h : Access.store a ∉ tickAccesses s) :
    t.mem.read a = s.mem.read a := by
  rcases step_inversion ht with
    ⟨-, rfl⟩ | ⟨-, -, rfl⟩ | ⟨hj, hd, hn, rfl⟩ | ⟨hj, hd, hn, hi, rfl⟩ | ⟨hfetches, hexec⟩
  · rfl
  · rfl
  · rw [tickAccesses_of_takes hj hd (.inl ⟨rfl, hn⟩)] at h
    rw [State.takeNmi_mem, entryMemory_frame h]
  · rw [tickAccesses_of_takes hj hd (.inr ⟨rfl, hn, hi⟩)] at h
    rw [State.takeIrq_mem, entryMemory_frame h]
  · exact exec_mem_frame hexec (tickAccesses_of_fetchesNext hfetches ▸ h)

/-- Settles O26: handler by handler, the stores of its access list are its writes. -/
theorem memoryFrame : Obligations.MemoryFrame :=
  ⟨fun _ _ _ _ => exec_mem_frame, fun _ _ _ => step_mem_frame⟩

end Sys2Proof.Machine
end

section
/-! What a tick depends on (20_memory.md R66): run on two memories that agree at the bytes it fetches, it makes the same
accesses, leaves the same registers, flags and hidden state, and stores the same bytes. -/

namespace Sys2Proof.Machine

/-- The state with another memory. -/
def State.setMem (s : State) (m : Memory) : State := { s with mem := m }

@[simp] theorem State.setMem_x (s : State) (m : Memory) : (s.setMem m).x = s.x := rfl
@[simp] theorem State.setMem_y (s : State) (m : Memory) : (s.setMem m).y = s.y := rfl
@[simp] theorem State.setMem_sp (s : State) (m : Memory) : (s.setMem m).sp = s.sp := rfl
@[simp] theorem State.setMem_pc (s : State) (m : Memory) : (s.setMem m).pc = s.pc := rfl
@[simp] theorem State.setMem_flags (s : State) (m : Memory) : (s.setMem m).flags = s.flags := rfl
@[simp] theorem State.setMem_mem (s : State) (m : Memory) : (s.setMem m).mem = m := rfl

/-- States that differ in memory alone, both in canonical form, and hold the same bytes at the stores of `accesses`. -/
structure Agree (accesses : List Access) (s s' : State) : Prop where
  rest : s'.setMem s.mem = s
  stored : ∀ a, Access.store a ∈ accesses → s'.mem.read a = s.mem.read a
  wf : s.mem.wf = true
  wf' : s'.mem.wf = true

/-- A change that neither reads nor writes memory. -/
def MemoryBlind (g : State → State) : Prop := ∀ (s : State) (m : Memory), g (s.setMem m) = (g s).setMem m

theorem MemoryBlind.mem {g : State → State} (hg : MemoryBlind g) (s : State) : (g s).mem = s.mem := by
  have hsame : g s = (g s).setMem s.mem := hg s s.mem
  rw [hsame, State.setMem_mem]

section
variable {s s' : State} {accesses accesses' : List Access}

theorem Agree.mono (h : Agree accesses s s') (hsub : ∀ a, Access.store a ∈ accesses' → Access.store a ∈ accesses) :
    Agree accesses' s s' :=
  ⟨h.rest, fun a ha => h.stored a (hsub a ha), h.wf, h.wf'⟩

theorem Agree.blind (h : Agree accesses s s') {g : State → State} (hg : MemoryBlind g) :
    Agree accesses (g s) (g s') := by
  refine ⟨?_, fun a ha => ?_, ?_, ?_⟩
  · rw [hg.mem, ← hg, h.rest]
  · rw [hg.mem, hg.mem, h.stored a ha]
  · rw [hg.mem, h.wf]
  · rw [hg.mem, h.wf']

theorem Agree.store (h : Agree accesses s s') (a : Word) (v : Byte) :
    Agree (.store a :: accesses) (s.store a v) (s'.store a v) := by
  refine ⟨?_, fun b hb => ?_, Memory.wf_write _ _ _ h.wf, Memory.wf_write _ _ _ h.wf'⟩
  · exact congrArg (State.store · a v) h.rest
  · rw [State.store_mem, State.store_mem, Memory.read_write _ _ _ _ h.wf, Memory.read_write _ _ _ _ h.wf']
    split
    · rfl
    · next hne => exact h.stored b (by simpa [hne] using hb)

theorem Agree.push8 (h : Agree accesses s s') (v : Byte) :
    Agree (.store (stackAddr s.sp) :: accesses) (s.push8 v) (s'.push8 v) := by
  have hsp : s'.sp = s.sp := by rw [← h.rest, State.setMem_sp]
  rw [State.push8, State.push8, hsp]
  exact (h.store _ v).blind (g := fun t => t.setSp (s.sp - 1)) fun _ _ => rfl

theorem Agree.setFlags (h : Agree accesses s s') {f f' : Flags} (hf : f' = f) :
    Agree accesses (s.setFlags f) (s'.setFlags f') :=
  hf ▸ h.blind (g := fun t => t.setFlags f') fun _ _ => rfl

theorem Agree.setZN (h : Agree accesses s s') {v v' : Byte} (hv : v' = v) :
    Agree accesses (s.setZN v) (s'.setZN v') :=
  hv ▸ h.blind (g := fun t => t.setZN v') fun _ _ => rfl

end

/-! A state and the same state with another memory. -/

section
variable {s : State} {m : Memory} {accesses : List Access} (hw : s.mem.wf = true) (hw' : m.wf = true)
include hw hw'

/-- Where nothing is stored, the two states agree as they stand. -/
theorem agree_setMem (h : ∀ a, Access.store a ∉ accesses) : Agree accesses s (s.setMem m) :=
  ⟨rfl, fun a ha => absurd ha (h a), hw, hw'⟩

/-- A change that uses one value `r` read from memory and is blind beside it. -/
theorem agree_of_read {α : Type} {g : α → State → State} {r r' : α} (hg : ∀ r, MemoryBlind (g r)) (hr : r' = r)
    (h : ∀ a, Access.store a ∉ accesses) : Agree accesses (g r s) (g r' (s.setMem m)) := by
  subst hr
  exact (agree_setMem hw hw' h).blind (hg r')

theorem agree_writeOp {o : Operand} (hr : resolve o (s.setMem m) = resolve o s) (v : Byte) :
    Agree ((resolve o s).ea.toList.map .store) (writeOp o v s) (writeOp o v (s.setMem m)) := by
  have hbase : Agree [] s (s.setMem m) := agree_setMem hw hw' nofun
  unfold writeOp
  rw [hr]
  cases (resolve o s).ea with
  | some ea => exact hbase.store ea v
  | none => exact hbase.blind (g := fun t => t.setA v) fun _ _ => rfl

theorem agree_jumpTo {o : Operand} (hr : resolve o (s.setMem m) = resolve o s) (h : ∀ a, Access.store a ∉ accesses) :
    Agree accesses (jumpTo o s) (jumpTo o (s.setMem m)) := by
  unfold jumpTo
  rw [hr]
  cases (resolve o s).ea with
  | some ea => exact (agree_setMem hw hw' h).blind (g := fun t => t.setPc ea) fun _ _ => rfl
  | none => exact agree_setMem hw hw' h

theorem agree_branch {cond : Flags → Bool} {o : Operand} (hr : resolve o (s.setMem m) = resolve o s)
    (h : ∀ a, Access.store a ∉ accesses) : Agree accesses (branch cond o s).1 (branch cond o (s.setMem m)).1 := by
  rw [branch_fst, branch_fst, State.setMem_flags]
  by_cases hcond : cond s.flags = true
  · rw [if_pos hcond, if_pos hcond]
    exact agree_jumpTo hw hw' hr h
  · rw [if_neg hcond, if_neg hcond]
    exact agree_setMem hw hw' h

theorem agree_pushWord (w : Word) :
    Agree [.store (stackAddr (s.sp - 1)), .store (stackAddr s.sp)] (s.pushWord w) ((s.setMem m).pushWord w) :=
  ((agree_setMem hw hw' (accesses := []) nofun).push8 (hi8 w)).push8 (lo8 w)

/-- An entry reads its vector outside the stack page, so from the memory before the pushes. -/
theorem agree_enterVector {vector : Word} (hhigh : 512 ≤ vector.toNat ∧ 512 ≤ (vector + 1).toNat)
    (h : ∀ a, Access.fetch a ∈ entryAccesses s.sp vector → m.read a = s.mem.read a) (returnPc : Word) (b4 : Bool) :
    Agree (entryAccesses s.sp vector) (s.enterVector vector returnPc b4)
      ((s.setMem m).enterVector vector returnPc b4) := by
  have hpushed := (agree_pushWord hw hw' returnPc).push8 (s.flags.packP b4)
  have hhi : m.read (vector + 1) = s.mem.read (vector + 1) := h _ (by simp [entryAccesses])
  have hlo : m.read vector = s.mem.read vector := h _ (by simp [entryAccesses])
  have hpc : (entryMemory (s.setMem m) returnPc b4).readWord vector = (entryMemory s returnPc b4).readWord vector := by
    rw [Memory.readWord, Memory.readWord, entryMemory_read_high _ _ _ _ hhigh.1, entryMemory_read_high _ _ _ _ hhigh.2,
      entryMemory_read_high _ _ _ _ hhigh.1, entryMemory_read_high _ _ _ _ hhigh.2, State.setMem_mem, hhi, hlo]
  have hentered := hpushed.blind (g := fun t =>
    (t.setFlags { s.flags with i := true }).setPc ((entryMemory s returnPc b4).readWord vector)) fun _ _ => rfl
  have hsame : (s.setMem m).enterVector vector returnPc b4 =
      ((((s.setMem m).pushWord returnPc).push8 (s.flags.packP b4)).setFlags { s.flags with i := true }).setPc
        ((entryMemory s returnPc b4).readWord vector) := by
    rw [← hpc]
    rfl
  rw [hsame]
  exact hentered.mono fun a => by simp [entryAccesses]; tauto

end

/-! What an instruction reads beside its own bytes: its pointer and its operand. -/

/-- The effective address depends on memory through its pointer (30_encoding.md R88). -/
theorem resolve_setMem {o : Operand} {s : State} {m : Memory}
    (h : ∀ a, Access.fetch a ∈ pointerReads o s → m.read a = s.mem.read a) :
    resolve o (s.setMem m) = resolve o s := by
  cases o with
  | ind w =>
    have hlo := h w (by simp [pointerReads])
    have hhi := h (indPointerHigh Config.jmpIndPageWrap w) (by simp [pointerReads])
    simp [resolve, hlo, hhi]
  | izx b =>
    have hlo := h (zext16 (b + s.x)) (by simp [pointerReads])
    have hhi := h (zpPointerHigh (b + s.x)) (by simp [pointerReads])
    simp [resolve, State.zpPointer, hlo, hhi]
  | izy b =>
    have hlo := h (zext16 b) (by simp [pointerReads])
    have hhi := h (zpPointerHigh b) (by simp [pointerReads])
    simp [resolve, State.zpPointer, hlo, hhi]
  | _ => rfl

theorem memoryOperand_setMem {o : Operand} {s : State} {m : Memory} (hr : resolve o (s.setMem m) = resolve o s) :
    memoryOperand o (s.setMem m) = memoryOperand o s := by
  unfold memoryOperand
  rw [hr]

theorem handlerAccesses_setMem {i : Instr} {s : State} {m : Memory}
    (hr : resolve i.operand (s.setMem m) = resolve i.operand s) :
    handlerAccesses i (s.setMem m) = handlerAccesses i s := by
  unfold handlerAccesses
  rw [memoryOperand_setMem hr]
  rfl

theorem readOp_setMem {o : Operand} {s : State} {m : Memory} (hr : resolve o (s.setMem m) = resolve o s)
    (h : ∀ a ∈ memoryOperand o s, m.read a = s.mem.read a) : readOp o (s.setMem m) = readOp o s := by
  by_cases himm : ∃ b, o = .imm b
  · obtain ⟨b, rfl⟩ := himm
    rfl
  · have himm' (b : Byte) (hb : o = .imm b) : False := himm ⟨b, hb⟩
    cases hea : (resolve o s).ea with
    | some ea =>
      rw [memoryOperand_eq himm', hea] at h
      rw [readOp_ea o _ ea (hr ▸ hea) himm', readOp_ea o s ea hea himm']
      exact h ea (by simp)
    | none => rcases (resolve_ea_none o s).mp hea with rfl | rfl <;> rfl

/-- JSR has absolute mode only (47_jump.md R191). -/
theorem operand_jsr {i : Instr} (h : i.mnemonic = .jsr) : ∃ w, i.operand = .abs w := by
  cases i with
  | jsr w => exact ⟨w, rfl⟩
  | _ => exact Mnemonic.noConfusion h

/-! What an instruction does past its own bytes. -/

section
variable {i : Instr} {s : State} {m : Memory} (hw : s.mem.wf = true) (hw' : m.wf = true)
include hw hw'

theorem agree_jsr (w : Word) : Agree [.store (stackAddr s.sp), .store (stackAddr (s.sp - 1))]
    (jsrHandler (.abs w) s).1 (jsrHandler (.abs w) (s.setMem m)).1 := by
  have hpushed := (agree_pushWord hw hw' (s.pc - 1)).blind (g := fun t => t.setPc w) fun _ _ => rfl
  exact hpushed.mono fun a => by simp; tauto

theorem agree_returnFromInterrupt {accesses : List Access} (himage : (s.setMem m).pulled8 = s.pulled8)
    (hpc : (s.setMem m).pull8.pulledWord = s.pull8.pulledWord) (h : ∀ a, Access.store a ∉ accesses) :
    Agree accesses s.returnFromInterrupt (s.setMem m).returnFromInterrupt := by
  have hsteps (t : State) : t.returnFromInterrupt =
      (t.pull8.setFlags (t.flags.unpackP t.pulled8)).pullWord.setPc t.pull8.pulledWord := rfl
  rw [hsteps, hsteps, himage, hpc]
  exact (agree_setMem hw hw' h).blind
    (g := fun t => (t.pull8.setFlags (t.flags.unpackP s.pulled8)).pullWord.setPc s.pull8.pulledWord) fun _ _ => rfl

variable (hr : resolve i.operand (s.setMem m) = resolve i.operand s)
include hr

/-- An instruction of class `read` depends on memory through its operand byte. -/
theorem agree_readClass {f : Byte → State → State} (hf : ∀ v, MemoryBlind (f v))
    (h : ∀ a ∈ memoryOperand i.operand s, m.read a = s.mem.read a) :
    Agree ((memoryOperand i.operand s).map .fetch) (readClass f i.operand s).1
      (readClass f i.operand (s.setMem m)).1 :=
  agree_of_read hw hw' hf (readOp_setMem hr h) (by simp)

/-- An instruction that writes the same byte to its operand stores the same. -/
theorem agree_writeOp_operand (hcls : Instr.cls i ≠ .read) {v v' : Byte} (hv : v' = v) :
    Agree ((memoryOperand i.operand s).map .store) (writeOp i.operand v s) (writeOp i.operand v' (s.setMem m)) := by
  rw [memoryOperand_eq (operand_ne_imm hcls), hv]
  exact agree_writeOp hw hw' hr v

/-- INC and DEC write back what follows from the operand byte (45_incdec.md). -/
theorem agree_writeBack (hcls : Instr.cls i ≠ .read) (h : ∀ a ∈ memoryOperand i.operand s, m.read a = s.mem.read a)
    (f : Byte → Byte) :
    Agree ((memoryOperand i.operand s).map .store)
      ((writeOp i.operand (f (readOp i.operand s)) s).setZN (f (readOp i.operand s)))
      ((writeOp i.operand (f (readOp i.operand (s.setMem m))) (s.setMem m)).setZN
        (f (readOp i.operand (s.setMem m)))) := by
  have hv := congrArg f (readOp_setMem hr h)
  exact (agree_writeOp_operand hw hw' hr hcls hv).setZN hv

theorem agree_shift (hcls : Instr.cls i ≠ .read) (h : ∀ a ∈ memoryOperand i.operand s, m.read a = s.mem.read a)
    (f : Byte → Bool → Shifted) :
    Agree ((memoryOperand i.operand s).map .store) (shift f i.operand s).1 (shift f i.operand (s.setMem m)).1 := by
  have hread := readOp_setMem hr h
  simp only [shift, noExtra, State.setMem_flags, hread]
  exact (agree_writeOp_operand hw hw' hr hcls rfl).setFlags rfl

/-- Handler by handler: the byte or word it reads is among its fetches, and beside it the handler is blind to memory but
for its stores. -/
theorem agree_handlerOf (h : ∀ a, Access.fetch a ∈ handlerAccesses i s → m.read a = s.mem.read a) :
    Agree (handlerAccesses i s) (handlerOf i.mnemonic i.operand s).1
      (handlerOf i.mnemonic i.operand (s.setMem m)).1 := by
  cases hmn : i.mnemonic with
  | lda | ldx | ldy | adc | sbc | and | ora | eor | cmp | cpx | cpy | bit =>
    have haccesses : handlerAccesses i s = (memoryOperand i.operand s).map .fetch := by simp [handlerAccesses, hmn]
    rw [haccesses] at h ⊢
    exact agree_readClass hw hw' hr (fun _ _ _ => rfl) fun a ha => h a (List.mem_map_of_mem ha)
  | sta | stx | sty =>
    have haccesses : handlerAccesses i s = (memoryOperand i.operand s).map .store := by simp [handlerAccesses, hmn]
    rw [haccesses]
    exact agree_writeOp_operand hw hw' hr (by simp [Instr.cls, hmn]) rfl
  | inc =>
    exact (agree_writeBack hw hw' hr (by simp [Instr.cls, hmn]) (fun a ha => h a (by simp [handlerAccesses, hmn, ha]))
      (· + 1)).mono (by simp [handlerAccesses, hmn])
  | dec =>
    exact (agree_writeBack hw hw' hr (by simp [Instr.cls, hmn]) (fun a ha => h a (by simp [handlerAccesses, hmn, ha]))
      (· - 1)).mono (by simp [handlerAccesses, hmn])
  | asl | lsr | rol | ror =>
    exact (agree_shift hw hw' hr (cls_ne_read_of_shift (by simp [Instr.cls, hmn]))
      (fun a ha => h a (by simp [handlerAccesses, hmn, ha])) _).mono (by simp [handlerAccesses, hmn])
  | pha | php =>
    have haccesses : handlerAccesses i s = [.store (stackAddr s.sp)] := by simp [handlerAccesses, hmn]
    rw [haccesses]
    exact (agree_setMem hw hw' (accesses := []) nofun).push8 _
  | pla =>
    have hpulled : (s.setMem m).pulled8 = s.pulled8 := h _ (by simp [handlerAccesses, hmn])
    exact agree_of_read hw hw' (g := fun v t => (t.pull8.setA v).setZN v) (fun _ _ _ => rfl) hpulled
      (by simp [handlerAccesses, hmn])
  | plp =>
    have hpulled : (s.setMem m).pulled8 = s.pulled8 := h _ (by simp [handlerAccesses, hmn])
    exact agree_of_read hw hw' (g := fun v t => t.pull8.setFlags (t.flags.unpackP v)) (fun _ _ _ => rfl) hpulled
      (by simp [handlerAccesses, hmn])
  | rts =>
    have hpulled : (s.setMem m).pulledWord = s.pulledWord :=
      congrArg₂ word (h _ (by simp [handlerAccesses, hmn])) (h _ (by simp [handlerAccesses, hmn]))
    exact agree_of_read hw hw' (g := fun w t => t.pullWord.setPc (w + 1)) (fun _ _ _ => rfl) hpulled
      (by simp [handlerAccesses, hmn])
  | rti =>
    have himage : (s.setMem m).pulled8 = s.pulled8 := h _ (by simp [handlerAccesses, hmn])
    have hpc : (s.setMem m).pull8.pulledWord = s.pull8.pulledWord :=
      congrArg₂ word (h _ (by simp [handlerAccesses, hmn])) (h _ (by simp [handlerAccesses, hmn]))
    show Agree _ s.returnFromInterrupt (s.setMem m).returnFromInterrupt
    exact agree_returnFromInterrupt hw hw' himage hpc (by simp [handlerAccesses, hmn])
  | jsr =>
    obtain ⟨w, ho⟩ := operand_jsr hmn
    have haccesses : handlerAccesses i s = [.store (stackAddr s.sp), .store (stackAddr (s.sp - 1))] := by
      simp [handlerAccesses, hmn]
    rw [haccesses, ho]
    exact agree_jsr hw hw' w
  | brk =>
    have haccesses : handlerAccesses i s = entryAccesses s.sp irqVector := by simp [handlerAccesses, hmn]
    rw [haccesses] at h ⊢
    show Agree _ (s.enterVector irqVector (s.pc + 1) true) ((s.setMem m).enterVector irqVector (s.pc + 1) true)
    exact agree_enterVector hw hw' (by decide) h _ _
  | jmp => exact agree_jumpTo hw hw' hr (by simp [handlerAccesses, hmn])
  | bcc | bcs | beq | bne | bmi | bpl | bvc | bvs => exact agree_branch hw hw' hr (by simp [handlerAccesses, hmn])
  | tax | tay | txa | tya | tsx | txs | inx | iny | dex | dey | clc | sec | cli | sei | cld | sed | clv | nop
  | illegal =>
    exact (agree_setMem hw hw' (by simp [handlerAccesses, hmn])).blind (g := fun t => (handlerOf _ i.operand t).1)
      fun _ _ => rfl

end

end Sys2Proof.Machine
end

section
/-! From the handler to the tick: the bytes of the instruction, its extra cycles, and the branches of `Step()`. -/

namespace Sys2Proof.Machine

/-- Fetching depends on the bytes of the instruction fetched. -/
theorem fetchInstr_congr {m m' : Memory} {pc : Word}
    (h : ∀ k < (fetchInstr m pc).length, m'.read (pc + BitVec.ofNat 16 k) = m.read (pc + BitVec.ofNat 16 k)) :
    fetchInstr m' pc = fetchInstr m pc := by
  have hrow := opcodeForm_carriesOperand (m.read pc)
  rw [fetchInstr_eq_instr, Instr.length, hrow.operandBytes] at h
  have hop : m'.read pc = m.read pc := by simpa using h 0 (Nat.lt_add_right _ Nat.one_pos)
  rw [fetchInstr_eq_instr, fetchInstr_eq_instr, hop]
  have hthird : pc + 1 + 1 = pc + 2 := by bv_omega
  generalize opcodeForm (m.read pc) = f at h ⊢
  cases f with
  | f1 i => rfl
  | f2 k => exact congrArg k (h 1 (by simp [Form.operandBytes]))
  | f3 k =>
    have h1 : m'.read (pc + 1) = m.read (pc + 1) := h 1 (by simp [Form.operandBytes])
    have h2 : m'.read (pc + 2) = m.read (pc + 2) := h 2 (by simp [Form.operandBytes])
    simp only [Form.instr, hthird, h1, h2]

/-- An instruction stores only past its own bytes and its pointer. -/
theorem store_mem_instrAccesses {i : Instr} {s : State} {a : Word} (h : Access.store a ∈ instrAccesses i s) :
    Access.store a ∈ handlerAccesses i (s.pastInstr i.operand) := by
  have hpointer : Access.store a ∉ pointerReads i.operand (s.pastInstr i.operand) := by
    unfold pointerReads
    split <;> simp
  simpa [instrAccesses, hpointer] using h

section
variable {i : Instr} {s : State} {m : Memory}
  (h : ∀ a, Access.fetch a ∈ instrAccesses i s → m.read a = s.mem.read a)
include h

/-- The pointer is among the fetches, so the effective address is the same. -/
theorem resolve_pastInstr_setMem :
    resolve i.operand ((s.pastInstr i.operand).setMem m) = resolve i.operand (s.pastInstr i.operand) :=
  resolve_setMem fun a ha => h a (List.mem_append_left _ (List.mem_append_right _ ha))

theorem extraCycles_setMem : Instr.extraCycles i (s.setMem m) = Instr.extraCycles i s := by
  have hresolved : Instr.resolved i (s.setMem m) = Instr.resolved i s := resolve_pastInstr_setMem h
  unfold Instr.extraCycles
  rw [hresolved]
  rfl

theorem instrAccesses_setMem : instrAccesses i (s.setMem m) = instrAccesses i s :=
  congrArg (_ ++ ·) (handlerAccesses_setMem (resolve_pastInstr_setMem h))

/-- An instruction on the other memory: the same next state beside memory, and the same bytes stored. -/
theorem agree_exec (hw : s.mem.wf = true) (hw' : m.wf = true) :
    ∃ t t', exec i s = .next t ∧ exec i (s.setMem m) = .next t' ∧ Agree (instrAccesses i s) t t' := by
  by_cases hi : i.mnemonic = .illegal
  · obtain ⟨op, rfl⟩ := mnemonic_illegal i hi
    refine ⟨_, _, exec_illegal op s, exec_illegal op _, ?_⟩
    have hbase : Agree (instrAccesses (.illegal op) s) s (s.setMem m) :=
      agree_setMem hw hw' fun a ha => List.not_mem_nil (store_mem_instrAccesses ha)
    exact hbase.blind (g := State.jam) fun _ _ => rfl
  · have hhandled := agree_handlerOf (i := i) (s := s.pastInstr i.operand) hw hw' (resolve_pastInstr_setMem h)
      fun a ha => h a (List.mem_append_right _ ha)
    refine ⟨_, _, exec_eq_run i s hi, exec_eq_run i _ hi, ?_⟩
    rw [handlerOf_extra, handlerOf_extra, extraCycles_setMem h]
    exact (hhandled.mono fun a => store_mem_instrAccesses).blind
      (g := fun t => t.setDebt (baseCycles i.mnemonic i.operand.mode + Instr.extraCycles i s - 1)) fun _ _ => rfl

end

/-- A tick on the other memory makes the same accesses and answers an agreeing state. -/
def TickAgrees (s : State) (m : Memory) : Prop :=
  tickAccesses (s.setMem m) = tickAccesses s ∧
    ∃ t t', step s = .next t ∧ step (s.setMem m) = .next t' ∧ Agree (tickAccesses s) t t'

section
variable {s : State} {m : Memory} (hw : s.mem.wf = true) (hw' : m.wf = true)
include hw hw'

theorem tickAgrees_of_takes {vector : Word} (hj : s.jammed = false) (hd : s.cycleDebt = 0) (htakes : s.Takes vector)
    (h : ∀ a, Access.fetch a ∈ tickAccesses s → m.read a = s.mem.read a) : TickAgrees s m := by
  rw [tickAccesses_of_takes hj hd htakes] at h
  have hhigh : 512 ≤ vector.toNat ∧ 512 ≤ (vector + 1).toNat := by
    rcases htakes with ⟨rfl, -⟩ | ⟨rfl, -⟩ <;> decide
  have hentered := agree_enterVector (s := { s with nmiPending := false }) hw hw' hhigh h s.pc false
  refine ⟨?_, _, _, step_of_takes hj hd htakes, step_of_takes (s := s.setMem m) hj hd htakes, ?_⟩
  · rw [tickAccesses_of_takes hj hd htakes]
    exact tickAccesses_of_takes (s := s.setMem m) hj hd htakes
  · rw [tickAccesses_of_takes hj hd htakes]
    exact hentered.blind (g := fun t => t.setDebt 6) fun _ _ => rfl

theorem tickAgrees_of_fetchesNext (hf : s.FetchesNext)
    (h : ∀ a, Access.fetch a ∈ tickAccesses s → m.read a = s.mem.read a) : TickAgrees s m := by
  rw [tickAccesses_of_fetchesNext hf] at h
  have hf' : (s.setMem m).FetchesNext := hf
  have hfetched : fetchInstr m s.pc = fetchInstr s.mem s.pc := fetchInstr_congr fun k hk =>
    h _ (List.mem_append_left _ (List.mem_append_left _ (List.mem_map_of_mem (List.mem_range.mpr hk))))
  obtain ⟨t, t', ht, ht', hagree⟩ := agree_exec h hw hw'
  refine ⟨?_, t, t', (step_of_fetchesNext hf).trans ht, ?_, tickAccesses_of_fetchesNext hf ▸ hagree⟩
  · rw [tickAccesses_of_fetchesNext hf, tickAccesses_of_fetchesNext hf', State.setMem_mem, State.setMem_pc, hfetched,
      instrAccesses_setMem h]
  · rw [step_of_fetchesNext hf', State.setMem_mem, State.setMem_pc, hfetched, ht']

theorem tickAgrees (h : ∀ a, Access.fetch a ∈ tickAccesses s → m.read a = s.mem.read a) : TickAgrees s m := by
  obtain ⟨t, ht⟩ := step_next s
  rcases step_inversion ht with ⟨hj, -⟩ | ⟨hj, hd, -⟩ | ⟨hj, hd, hn, -⟩ | ⟨hj, hd, hn, hi, -⟩ | ⟨hf, -⟩
  · have hnone := tickAccesses_of_jammed hj
    refine ⟨hnone ▸ tickAccesses_of_jammed (s := s.setMem m) hj, _, _, step_of_jammed hj,
      step_of_jammed (s := s.setMem m) hj, agree_setMem hw hw' (by simp [hnone])⟩
  · have hnone := tickAccesses_of_owing hj hd
    refine ⟨hnone ▸ tickAccesses_of_owing (s := s.setMem m) hj hd, _, _, step_of_owing hj hd,
      step_of_owing (s := s.setMem m) hj hd, ?_⟩
    exact (agree_setMem hw hw' (by simp [hnone])).blind (g := State.countDown) fun _ _ => rfl
  · exact tickAgrees_of_takes hw hw' hj hd (.inl ⟨rfl, hn⟩) h
  · exact tickAgrees_of_takes hw hw' hj hd (.inr ⟨rfl, hn, hi⟩) h
  · exact tickAgrees_of_fetchesNext hw hw' hf h

end

/-- Settles O27: each kind of tick on the other memory. -/
theorem tickReadsOnlyWhatItFetches : Obligations.TickReadsOnlyWhatItFetches := by
  intro s m hw hw' h
  obtain ⟨haccesses, t, t', ht, ht', hagree⟩ := tickAgrees hw hw' h
  exact ⟨haccesses, t, t', ht, ht', hagree.rest, hagree.stored⟩

end Sys2Proof.Machine
end
